-- ==== Sys2Proof/Word.lean ====
section
/-! DEFINITION. The widths of the OWC: a byte (every host-visible register, R8, R21) and an array of
eight bytes (ADDR and SROM, R33, R34; "8 bytes = 64 bits", R8). -/

namespace Sys2Proof

/-- One register's contents: 8 bits, unsigned unless a rule says otherwise (R8, R9). -/
abbrev Byte := BitVec 8

/-- An 8-byte address, element k being address byte k (R14, R33, R34). -/
abbrev Bytes8 := Vector Byte 8

/-- A bit position of an address, 0 to 63 (R161). -/
abbrev BitPosition := Fin 64

/-- The address whose every byte is 0x00 (the reset value of ADDR and SROM, R33, R34). -/
def Bytes8.zero : Bytes8 := #v[0, 0, 0, 0, 0, 0, 0, 0]

end Sys2Proof
end

