-- ==== Sys2Proof/Syntax.lean ====
section
/-! DEFINITION. The OWC command set (R71, R77): one constructor per row of spec/opcode_table.json. -/

namespace Sys2Proof

/-- A command of the OWC. The operand of a constructor is the assembler's operand (R77). -/
inductive Instr where
  /-- `RESET`: bus reset and presence detect (R120). -/
  | reset
  /-- `WBIT b`: write one bit slot, b = CMD[0] (R121). -/
  | wbit (b : Bool)
  /-- `RBIT`: read one bit slot into DATA (R122). -/
  | rbit
  /-- `WBYTE p`: write DATA, p = CMD[0] is holdPower (R123). -/
  | wbyte (p : Bool)
  /-- `RBYTE`: read one byte into DATA (R124). -/
  | rbyte
  /-- `SELECT`: write MATCH_ROM_CMD and the 8 bytes of ADDR (R125). -/
  | select
  /-- `SEARCH_INIT`: start a fresh enumeration (R165). -/
  | searchInit
  /-- `SEARCH_NEXT`: one pass of the device search (R170). -/
  | searchNext
  /-- `CRC_CLEAR`: seed the accumulator (R150). -/
  | crcClear
  /-- `CRC_BYTE`: fold DATA into the accumulator (R151). -/
  | crcByte
  /-- `CRC_ADDR n`: the CRC of the first n bytes of ADDR, n = CMD[2:0] + 1 from 1 to 8 (R72, R152). -/
  | crcAddr (n : Nat)
deriving DecidableEq, Repr

end Sys2Proof
end

