-- ==== Sys2Proof/WellFormed.lean ====
section
/-! DEFINITION. Which terms of Instr are commands of the spec. The one operand with a range of its own
is the byte count of CRC_ADDR: "`CRC_ADDR n` with n from 1 to 8" (R77, R72). -/

namespace Sys2Proof

/-- The check on the operands of a command (R72, R77). -/
def Instr.wellFormed : Instr → Bool
  | .reset => true
  | .wbit _ => true
  | .rbit => true
  | .wbyte _ => true
  | .rbyte => true
  | .select => true
  | .searchInit => true
  | .searchNext => true
  | .crcClear => true
  | .crcByte => true
  | .crcAddr n => decide (1 ≤ n) && decide (n ≤ 8)

end Sys2Proof
end

