-- ==== Sys2Proof/Decode.lean ====
section
/-! DEFINITION. The command encoding, format CMD8 (R70 to R76): the decoder, total on the 256 bytes and
rejecting by name, and after it the encoder. -/

namespace Sys2Proof

/-- Why a CMD byte is illegal (R74). -/
inductive DecodeError where
  /-- OP is 0x0 or 0xC to 0xF, which no row of R71 has (R74, R75). -/
  | reservedOp (op : BitVec 4)
  /-- A MOD bit that R71 requires to be 0 is 1 (R73, R74). -/
  | nonzeroMod (op mod : BitVec 4)
deriving DecidableEq, Repr

/-- OP, bits 7:4 of a CMD byte (R70). -/
def opField (v : Byte) : BitVec 4 := v.extractLsb' 4 4

/-- MOD, bits 3:0 of a CMD byte (R70). -/
def modField (v : Byte) : BitVec 4 := v.extractLsb' 0 4

/-- The command i, if MOD holds no 1 at a bit where `fixed` has one (R73). -/
def withMod (v : Byte) (fixed : BitVec 4) (i : Instr) : Except DecodeError Instr :=
  if modField v &&& fixed = 0 then .ok i else .error (.nonzeroMod (opField v) (modField v))

/-- The command that a CMD byte encodes, or why it is illegal (R71 to R74). The `fixed` mask of a row
is the low half of its mask in R71. -/
def decode (v : Byte) : Except DecodeError Instr :=
  match (opField v).toNat with
  | 0x1 => withMod v 0xF .reset
  | 0x2 => withMod v 0xE (.wbit (v.getLsbD 0))
  | 0x3 => withMod v 0xF .rbit
  | 0x4 => withMod v 0xE (.wbyte (v.getLsbD 0))
  | 0x5 => withMod v 0xF .rbyte
  | 0x6 => withMod v 0xF .select
  | 0x7 => withMod v 0xF .searchInit
  | 0x8 => withMod v 0xF .searchNext
  | 0x9 => withMod v 0xF .crcClear
  | 0xA => withMod v 0xF .crcByte
  | 0xB => withMod v 0x8 (.crcAddr ((v.extractLsb' 0 3).toNat + 1))
  | _ => .error (.reservedOp (opField v))

/-- The decoder's answer as an option. -/
def decode? (v : Byte) : Option Instr :=
  match decode v with
  | .ok i => some i
  | .error _ => none

/-- The CMD byte of a command: the match value of its row of R71 plus its operand field (R72). On an
ill-formed CRC_ADDR count the byte is of no meaning. -/
def encode : Instr → Byte
  | .reset => 0x10
  | .wbit b => 0x20 + (BitVec.ofBool b).setWidth 8
  | .rbit => 0x30
  | .wbyte p => 0x40 + (BitVec.ofBool p).setWidth 8
  | .rbyte => 0x50
  | .select => 0x60
  | .searchInit => 0x70
  | .searchNext => 0x80
  | .crcClear => 0x90
  | .crcByte => 0xA0
  | .crcAddr n => 0xB0 + BitVec.ofNat 8 (n - 1)

/-- The command whose nbits bits are w: every command is one CMD byte (R70, R76), so the byte is the
low nbits bits of w with zeros above them. -/
def decodeTableWord (nbits w : Nat) : Option Instr :=
  decode? (BitVec.ofNat 8 (w % 2 ^ nbits))

end Sys2Proof
end

