-- ==== Sys2Proof/Config.lean ====
section
/-! DEFINITION. What one implementation fixes (the OPEN parameters of R8) and the two free values of
the model: the bus's answers beyond those written down in the state, and what a read of a register
that the running command may write returns. -/

namespace Sys2Proof

/-- The OPEN parameters of R8 ("A model takes each `OPEN` parameter as an argument"). They stand in
State, as straps that no step and no block reset changes, so that a statement about every state is a
statement about every value of them (log entry 1). -/
structure Params where
  /-- `OWC_BASE`: host address of window offset 0x00 (R8, R50, D2). -/
  owcBase : Nat
  /-- `TICKS_PER_US`: sequencer clock cycles in one microsecond, at least 1 (R8, R100, D21). -/
  ticksPerUs : Nat
  /-- `SEARCH_ROM_CMD`: the byte of SEARCH_NEXT step 3 (R8, R170, D11). -/
  searchRomCmd : Byte
  /-- `MATCH_ROM_CMD`: the first byte SELECT writes (R8, R125, D12). -/
  matchRomCmd : Byte
deriving DecidableEq, Repr

/-- The parameters State.reset holds. 0xF0 and 0x55 are the spec's own defaults (R8, D11, D12). The
spec gives no default for the base address and the tick count: 0 and 1 are the model's (log entry 1,
DESIGN CHOICE, unsafe). No statement rests on any of the four. -/
def Params.default : Params where
  owcBase := 0
  ticksPerUs := 1
  searchRomCmd := 0xF0
  matchRomCmd := 0x55

/-- FREE VALUE: the answer of the n-th `Sample()` that the state's list of answers does not cover.
The bus is an oracle (R6): "the rules place no constraint on which bit" (log entry 2). -/
opaque Config.freeSample : Nat → Bool

/-- FREE VALUE: what the n-th host read, while busy, of a register that the running command may write
returns: "any value of that register's width" (R55, I2; log entry 3). -/
opaque Config.freeByte : Nat → Byte

end Sys2Proof
end

