-- ==== Sys2Proof/Machine/State.lean ====
section
/-! DEFINITION. The state of the OWC: the register window (R21 to R35), the sequencer with its transient
state and operand latch (R20, R39, R40), the line driver (R36), the ports as the model holds them (R37),
and the host accesses still to come (R5, R56). Plain data throughout. -/

namespace Sys2Proof.Machine

open Sys2Proof

/-- `STATUS.SRES`, the outcome of the most recent SEARCH_NEXT (R28). The codes 0b101 to 0b111 are
"never produced" and have no constructor (I6, D41). -/
inductive SearchResult where
  | none
  | deviceFound
  | noDevices
  | exhausted
  | crcFault
deriving DecidableEq, Repr

/-- `LSTATE`, the state of the line driver (R36). -/
inductive LineState where
  | released
  | driveLow
  | driveHigh
deriving DecidableEq, Repr

/-- One entry of the line trace (R7, R12). -/
inductive LineAction where
  /-- `LineLow()` -/
  | low
  /-- `LineHigh()` -/
  | high
  /-- `LineRelease()` -/
  | release
  /-- `Wait(n)`, n in microseconds -/
  | wait (us : Nat)
  /-- `Sample()` with the answer it got, true for a high line -/
  | sample (level : Bool)
deriving DecidableEq, Repr

/-- The byte a WriteByteWire sends (R113): the latched DATA (R123), a byte of ADDR, read while SELECT
runs (R40, R125), or one of the two parameters (R125, R170). -/
inductive ByteSource where
  | latch
  | addr (k : Fin 8)
  | matchRomCmd
  | searchRomCmd
deriving DecidableEq, Repr

/-- The bit a WriteBitWire writes (R111): WBIT's operand (R121), bit i of a byte (R113), or the search
direction `dir` (R170 step 4). -/
inductive BitSource where
  | imm (b : Bool)
  | byteBit (src : ByteSource) (i : Fin 8)
  | dir
deriving DecidableEq, Repr

/-- Where a `Sample()` puts its answer: the presence sample `s` of BusReset (R110), `b` or `cb` of the
search (R170 step 4), or bit i of the byte being read (R112, R114). -/
inductive SampleTarget where
  | presence
  | bit
  | complement
  | value (i : Fin 8)
deriving DecidableEq, Repr

/-- One action of the sequencer. A command's pseudocode is a list of these with its bounded loops
written out; `Machine/Ops.lean` (`perform`) gives each its effect and `MicroOp.cycles` its time. -/
inductive MicroOp where
  /-- `LineLow()` (R12) -/
  | lineLow
  /-- `LineHigh()` (R12) -/
  | lineHigh
  /-- `LineRelease()` (R12) -/
  | lineRelease
  /-- `Wait(us)` (R12, R100) -/
  | wait (us : Nat)
  /-- the low phase of a write slot: `Wait(10)` for 1, `Wait(65)` for 0 (R111) -/
  | slotLow (b : BitSource)
  /-- the released phase of a write slot: `Wait(55)` for 1, `Wait(5)` for 0 (R111) -/
  | slotRest (b : BitSource)
  /-- `Sample()` into a pseudocode variable -/
  | sample (t : SampleTarget)
  /-- `Wait(2)` of one iteration of the float-high poll, skipped once the loop has been left (R110) -/
  | pollWait
  /-- `if Sample() = 1: floated <- 1; break`, skipped once the loop has been left (R110) -/
  | pollSample
  /-- `if floated = 0: ...; return 0`, else `STATUS.SHORT <- 0` (R110). `forSearch` says that the
  caller is SEARCH_NEXT, whose step 2 then runs Reinit and reports NO_DEVICES (R170). -/
  | requireFloat (forSearch : Bool)
  /-- `STATUS.PRES <- 1 - s` (R110) -/
  | recordPresence
  /-- SEARCH_NEXT step 2: return with NO_DEVICES if BusReset returned 0 (R170) -/
  | requirePresence
  /-- `DATA <- ` the bit or byte just read (R122, R124) -/
  | storeData
  /-- SEARCH_NEXT step 1: return with EXHAUSTED if LDF = 1 (R170) -/
  | checkLastDevice
  /-- `pos <- p`, the head of the loop of step 4 (R170) -/
  | atPosition (p : BitPosition)
  /-- step 4 between the two reads and the write: abort on both ones, else set `dir`, `lz` and the bit
  of SROM (R170, R163) -/
  | chooseDirection
  /-- steps 5 to 7 of SEARCH_NEXT (R170), in one cycle (R243) -/
  | conclude
  /-- `Reinit(); STATUS.SRES <- NONE` (R165) -/
  | searchInit
  /-- `CRC <- 0x00` (R150) -/
  | crcClear
  /-- `CRC <- crc8_step(CRC, DATA)` (R151) -/
  | crcByte
  /-- `CRC <- crc8(ADDR, n)` (R152) -/
  | crcAddr (n : Nat)
deriving DecidableEq, Repr

/-- What the sequencer holds while a command runs: the operand latch of R40, the transient variables of
R39 and of the procedures of 40_busline.md, and how far the command has come. "None of these is visible
to the host, and none survives the command" (R39): when idle it is `Work.clear` (log entry 9). -/
structure Work where
  /-- DATA, latched at acceptance (R40) -/
  latch : Byte
  /-- the actions still to perform, the current one first -/
  rest : List MicroOp
  /-- cycles already spent on the current action -/
  elapsed : Nat
  /-- `floated` of BusReset (R110) -/
  floated : Bool
  /-- the presence sample `s` of BusReset (R110) -/
  presence : Bool
  /-- `v` of ReadByteWire, also `r` of ReadBitWire (R112, R114) -/
  value : Byte
  /-- `pos` (R39) -/
  pos : BitPosition
  /-- `lz`, a signed integer, -1 to 63 (R39) -/
  lz : Int
  /-- `b` (R39) -/
  b : Bool
  /-- `cb` (R39) -/
  cb : Bool
  /-- `dir` (R39) -/
  dir : Bool
deriving DecidableEq, Repr

/-- The sequencer's variables at the start of a command and when idle; `lz <- -1` is step 4's (R170). -/
def Work.clear : Work where
  latch := 0
  rest := []
  elapsed := 0
  floated := false
  presence := false
  value := 0
  pos := 0
  lz := -1
  b := false
  cb := false
  dir := false

/-- The sequencer phase, `IDLE` or `BUSY(c)` (R20). -/
inductive Phase where
  | idle
  | busy (c : Instr)
deriving DecidableEq, Repr

/-- Something that reaches the block's ports from outside (R37). -/
inductive HostEvent where
  /-- a host read of `width` bytes at host address `address`; the interface has width 1 only (R11, R60) -/
  | read (address width : Nat)
  /-- a host write of `value` with the given width; `value` is what a one-byte access carries (R11, R60) -/
  | write (address width : Nat) (value : Byte)
  /-- the reset port `rst_n` takes the level `high` (R37, R230) -/
  | rstN (high : Bool)
deriving DecidableEq, Repr

/-- An event and the clock cycle at which it happens. An event whose time has passed happens at once:
events take effect one at a time in the order of the list (R56). -/
structure Scheduled where
  time : Nat
  event : HostEvent
deriving DecidableEq, Repr

/-- The machine. The fields from `cmd` to `line` are the spec's; those from `params` on are the
parameters, the ports' inputs and outputs, and the model's own counters (log entries 1 to 5). -/
structure State where
  /-- CMD as it reads back: the last accepted command byte (R22) -/
  cmd : Byte
  /-- STATUS.PRES (R25) -/
  pres : Bool
  /-- STATUS.SHORT (R26) -/
  short : Bool
  /-- STATUS.LDF (R27) -/
  ldf : Bool
  /-- STATUS.SRES (R28) -/
  sres : SearchResult
  /-- STATUS.ERR (R29) -/
  err : Bool
  /-- DATA (R30) -/
  data : Byte
  /-- CRC (R31) -/
  crc : Byte
  /-- LASTDISC, read as a signed 8-bit integer; 0xFF is "none" (R32) -/
  lastDisc : Byte
  /-- ADDR[0..7] (R33) -/
  addr : Bytes8
  /-- SROM[0..7] (R34) -/
  srom : Bytes8
  /-- the sequencer phase; STATUS.BUSY is derived from it (R20, R24) -/
  phase : Phase
  /-- operand latch and transient state (R39, R40) -/
  work : Work
  /-- LSTATE (R36) -/
  line : LineState
  /-- the level of the input port rst_n (R37, R230) -/
  rstN : Bool
  /-- the OPEN parameters (R8) -/
  params : Params
  /-- accesses still to come, the next one first (R5, R56; ports h_off, h_wr, h_rd, h_wdata, rst_n) -/
  pending : List Scheduled
  /-- answers of the bus to come, the next one first (R6; port ow_i) -/
  answers : List Bool
  /-- MODEL'S OWN: how many samples the free value has answered (log entry 2) -/
  sampleDraws : Nat
  /-- MODEL'S OWN: how many reads the free value has answered (log entry 3) -/
  readDraws : Nat
  /-- the line trace, NEWEST first; `State.trace` gives it in order (R7, log entry 4) -/
  log : List LineAction
  /-- what the host's reads returned, offset and byte, newest first (R54; port h_rdata) -/
  replies : List (Fin 32 × Byte)
  /-- cycles of `clk` since power-on: the internal timebase of R216 (R37, R100) -/
  clock : Nat
deriving DecidableEq, Repr

/-- Why a step stops with a fault: there is no such reason. "No command traps, halts or hangs the block"
(R200), and a host access outside the interface has no effect on the block (R60, I3, log entry 6). -/
inductive Fault
deriving DecidableEq, Repr

/-- Why a step is refused. -/
inductive Refusal where
  /-- Raised only in an arm of `exec` for a command that has no meaning yet. SAFE: the model stops. -/
  | notModelled (mnemonic : String)
deriving DecidableEq, Repr

/-- The machine right after block reset (R230): every register at the value its rule gives (R22 to
R34), IDLE, the line released, nothing scheduled. -/
def State.reset : State where
  cmd := 0x00
  pres := false
  short := false
  ldf := false
  sres := .none
  err := false
  data := 0x00
  crc := 0x00
  lastDisc := 0xFF
  addr := Bytes8.zero
  srom := Bytes8.zero
  phase := .idle
  work := Work.clear
  line := .released
  rstN := true
  params := Params.default
  pending := []
  answers := []
  sampleDraws := 0
  readDraws := 0
  log := []
  replies := []
  clock := 0

end Sys2Proof.Machine
end

