-- ==== Sys2Proof/Machine/Flags.lean ====
section
/-! DEFINITION. STATUS as the host reads it (R23), and the output ports that show the line driver
(R37). -/

namespace Sys2Proof.Machine

open Sys2Proof

/-- The 3-bit code of an outcome (R28). -/
def SearchResult.code : SearchResult → BitVec 3
  | .none => 0b000
  | .deviceFound => 0b001
  | .noDevices => 0b010
  | .exhausted => 0b011
  | .crcFault => 0b100

/-- STATUS.BUSY: 1 exactly while the phase is `BUSY(c)` (R24). -/
def State.busy (s : State) : Bool :=
  match s.phase with
  | .idle => false
  | .busy _ => true

/-- STATUS, most significant bit first: ERR, SRES, LDF, SHORT, PRES, BUSY (R23). -/
def State.status (s : State) : Byte :=
  BitVec.ofBool s.err ++ s.sres.code ++ BitVec.ofBool s.ldf ++ BitVec.ofBool s.short ++
    BitVec.ofBool s.pres ++ BitVec.ofBool s.busy

/-- The source's search states (R160). -/
inductive SearchState where
  | idle
  | inProgress
  | deviceFound
  | noDevices
  | exhausted
  | crcFault
deriving DecidableEq, Repr

/-- The search state that an outcome in SRES stands for while SEARCH_NEXT is not running (R160). -/
def SearchResult.state : SearchResult → SearchState
  | .none => .idle
  | .deviceFound => .deviceFound
  | .noDevices => .noDevices
  | .exhausted => .exhausted
  | .crcFault => .crcFault

/-- The search state of the block: InProgress while SEARCH_NEXT runs, else what SRES says (R160). -/
def State.searchState (s : State) : SearchState :=
  if s.phase = .busy .searchNext then .inProgress else s.sres.state

/-- A host write of v to STATUS: `if v[7] = 1 then STATUS.ERR <- 0`; bits 6:0 are ignored (R29, R51). -/
def State.writeStatus (s : State) (v : Byte) : State :=
  { s with err := s.err && !v.getLsbD 7 }

/-- Port ow_oe: 1 = drive the line (R37). -/
def State.owOe (s : State) : Bool :=
  match s.line with
  | .released => false
  | .driveLow => true
  | .driveHigh => true

/-- Port ow_o: "level driven when `ow_oe` = 1: 0 for `LineLow`, 1 for `LineHigh`" (R37). While the line
is released the spec gives it no level, and the model gives none. -/
def State.owO (s : State) : Option Bool :=
  match s.line with
  | .released => none
  | .driveLow => some false
  | .driveHigh => some true

/-- Port ow_pu: the pull-up enable, "1 at all times, from reset on" (R36, R37). -/
def State.owPu (_ : State) : Bool := true

/-- Port h_rdata after the most recent host read (R37, R54). -/
def State.hRdata (s : State) : Option Byte := s.replies.head?.map (·.2)

/-- The line trace since power-on, in the order performed (R7). -/
def State.trace (s : State) : List LineAction := s.log.reverse

end Sys2Proof.Machine
end

