-- ==== Sys2Proof/Machine/Operands.lean ====
section
/-! DEFINITION. Operands of the commands (R40, R72), bits of an address (R161), and the register window
(R21). -/

namespace Sys2Proof.Machine

open Sys2Proof

/-- Bit position p of an address: bit `p mod 8` of byte `p div 8` (R161). -/
def addressBit (a : Bytes8) (p : BitPosition) : Bool :=
  (a[p.val / 8]'(by omega)).getLsbD (p.val % 8)

/-- Byte v with bit i set to b and every other bit kept. -/
def setByteBit (v : Byte) (i : Nat) (b : Bool) : Byte :=
  (v &&& ~~~ BitVec.twoPow 8 i) ||| (if b then BitVec.twoPow 8 i else 0)

/-- `a[p div 8][p mod 8] <- b` (R10, R161). -/
def setAddressBit (a : Bytes8) (p : BitPosition) (b : Bool) : Bytes8 :=
  a.set (p.val / 8) (setByteBit (a[p.val / 8]'(by omega)) (p.val % 8) b) (by omega)

/-- The byte a WriteByteWire sends (R113, R123, R125, R170). -/
def State.byteOf (s : State) : ByteSource → Byte
  | .latch => s.work.latch
  | .addr k => s.addr[k]
  | .matchRomCmd => s.params.matchRomCmd
  | .searchRomCmd => s.params.searchRomCmd

/-- The bit a WriteBitWire writes (R111). -/
def State.bitOf (s : State) : BitSource → Bool
  | .imm b => b
  | .byteBit src i => (s.byteOf src).getLsbD i.val
  | .dir => s.work.dir

/-- Low phase of a write slot, in microseconds (R111). -/
def slotLowTime (b : Bool) : Nat := if b then 10 else 65

/-- Released phase of a write slot, in microseconds (R111). -/
def slotRestTime (b : Bool) : Nat := if b then 55 else 5

/-- LASTDISC as the signed integer that every comparison uses (R32, R161). -/
def State.lastDiscInt (s : State) : Int := s.lastDisc.toInt

/-- What stands at an offset of the register window (R21). -/
inductive Register where
  | cmd
  | status
  | data
  | crc
  | lastDisc
  | addr (k : Fin 8)
  | srom (k : Fin 8)
  | reserved
deriving DecidableEq, Repr

/-- Is it a byte of ADDR? -/
def Register.isAddr : Register → Bool
  | .addr _ => true
  | .cmd | .status | .data | .crc | .lastDisc | .srom _ | .reserved => false

/-- Is it a byte of SROM? -/
def Register.isSrom : Register → Bool
  | .srom _ => true
  | .cmd | .status | .data | .crc | .lastDisc | .addr _ | .reserved => false

/-- The register at each of the 32 offsets (R21). -/
def registerAt (off : Fin 32) : Register :=
  if off.val = 0x00 then .cmd
  else if off.val = 0x01 then .status
  else if off.val = 0x02 then .data
  else if off.val = 0x03 then .crc
  else if off.val = 0x04 then .lastDisc
  else if off.val < 0x08 then .reserved
  else if h : off.val < 0x10 then .addr ⟨off.val - 0x08, by omega⟩
  else if h : off.val < 0x18 then .srom ⟨off.val - 0x10, by omega⟩
  else .reserved

/-- The exact value a register reads as (R54, R35). -/
def State.peek (s : State) : Register → Byte
  | .cmd => s.cmd
  | .status => s.status
  | .data => s.data
  | .crc => s.crc
  | .lastDisc => s.lastDisc
  | .addr k => s.addr[k]
  | .srom k => s.srom[k]
  | .reserved => 0x00

/-- The window offset of a host address, if it lies in the window (R50, R60). -/
def State.offsetOf (s : State) (address : Nat) : Option (Fin 32) :=
  if h : s.params.owcBase ≤ address ∧ address - s.params.owcBase < 32 then
    some ⟨address - s.params.owcBase, h.2⟩
  else none

/-- The registers a running command may write, whose reads are a draw while it runs (R55). -/
def mayWrite (c : Instr) (r : Register) : Bool :=
  match c with
  | .reset => false
  | .wbit _ => false
  | .rbit => r == .data
  | .wbyte _ => false
  | .rbyte => r == .data
  | .select => false
  | .searchInit => r.isSrom || r == .lastDisc
  | .searchNext => r.isSrom || r == .lastDisc || r.isAddr
  | .crcClear => r == .crc
  | .crcByte => r == .crc
  | .crcAddr _ => r == .crc

end Sys2Proof.Machine
end

