-- ==== Sys2Proof/Machine/Crc8.lean ====
section
/-! DEFINITION. The CRC-8 function (R140, R141) and the validity of an address (R145). -/

namespace Sys2Proof.Machine

open Sys2Proof

/-- n iterations of the loop of R140 from the state (crc, inp). -/
def crc8Loop : Nat → Byte → Byte → Byte
  | 0, crc, _ => crc
  | n + 1, crc, inp =>
    let mix := (crc ^^^ inp) &&& 1
    let shifted := crc >>> 1
    crc8Loop n (if mix = 1 then shifted ^^^ 0x8C else shifted) (inp >>> 1)

/-- `crc8_step(c, d)`: fold one input byte d into the CRC state c (R140). -/
def crc8Step (c d : Byte) : Byte := crc8Loop 8 c d

/-- `crc8(bytes, length)`: the fold over `bytes[0]` to `bytes[length-1]` from the seed 0x00 (R141). -/
def crc8 (bytes : List Byte) (length : Nat) : Byte := (bytes.take length).foldl crc8Step 0x00

/-- An 8-byte address is valid when the CRC over bytes 0 to 6 equals byte 7 (R145). -/
def validAddress (a : Bytes8) : Bool := crc8 a.toList 7 == a[7]

end Sys2Proof.Machine
end

