-- ==== Sys2Proof/Machine/Ops.lean ====
section
/-! DEFINITION. The shared operations: line primitives (R12), the sequencer's actions and their times
(40_busline.md, 41_crc8.md, 42_search.md, R243), running a command from acceptance to completion (R52),
host accesses (R51 to R55) and block reset (R230). The OWC has no trap (R200): what the source calls a
fault is an outcome recorded in STATUS, by `endSearch` and `requireFloat` below (R201, R207). -/

namespace Sys2Proof.Machine

open Sys2Proof

/-! ### Line primitives -/

/-- Put one entry on the line trace (R7). -/
def State.record (s : State) (a : LineAction) : State := { s with log := a :: s.log }

/-- A driver primitive: LSTATE becomes l, and a goes on the trace (R12, R36). -/
def State.drive (s : State) (l : LineState) (a : LineAction) : State :=
  { s with line := l, log := a :: s.log }

/-- The bus's answer to the next `Sample()`: the next one written down in the state, else a free value
(R6, log entry 2). -/
def State.nextAnswer (s : State) : Bool := s.answers.headD (Config.freeSample s.sampleDraws)

/-- `Sample()`: takes the answer and puts it on the trace (R12). -/
def State.takeSample (s : State) : State :=
  { s with
    answers := s.answers.tail
    sampleDraws := if s.answers.isEmpty then s.sampleDraws + 1 else s.sampleDraws
    log := .sample s.nextAnswer :: s.log }

/-- Put a sampled level into its pseudocode variable. -/
def Work.store (w : Work) (t : SampleTarget) (level : Bool) : Work :=
  match t with
  | .presence => { w with presence := level }
  | .bit => { w with b := level }
  | .complement => { w with cb := level }
  | .value i => { w with value := setByteBit w.value i.val level }

/-! ### The search's procedures -/

/-- `Reinit()`: the SearchState takes its initial values and nothing else changes (R162). -/
def State.reinit (s : State) : State :=
  { s with lastDisc := 0xFF, ldf := false, srom := Bytes8.zero }

/-- `Reinit(); STATUS.SRES <- outcome`: how SEARCH_NEXT records every outcome other than DEVICE_FOUND
(R170, R207), and SEARCH_INIT its NONE (R165). -/
def State.endSearch (s : State) (outcome : SearchResult) : State :=
  { s.reinit with sres := outcome }

/-- `Choose(pos)`, the direction at a conflict (R163). -/
def State.choose (s : State) (pos : BitPosition) : Bool :=
  if (pos.val : Int) < s.lastDiscInt then addressBit s.srom pos
  else if (pos.val : Int) = s.lastDiscInt then true
  else false

/-- The direction step 4 writes at `pos` once the pair has not read both ones: forced if the two bits
differ, else `Choose(pos)` (R170). -/
def State.direction (s : State) : Bool :=
  if s.work.b != s.work.cb then s.work.b else s.choose s.work.pos

/-- `lz` after position `pos`: pos if 0 was chosen at a conflict, else unchanged (R163, R170). -/
def State.nextLz (s : State) : Int :=
  if s.work.b == s.work.cb && !s.direction then (s.work.pos.val : Int) else s.work.lz

/-- Step 4 after the reads of one position: `dir`, `lz`, and the bit of SROM (R170). -/
def State.takeDirection (s : State) : State :=
  { s with
    srom := setAddressBit s.srom s.work.pos s.direction
    work := { s.work with dir := s.direction, lz := s.nextLz } }

/-- Step 5: LASTDISC, and the terminal flag when no 0 was chosen at a conflict (R170). -/
def State.bookkeep (s : State) : State :=
  { s with
    lastDisc := BitVec.ofInt 8 s.work.lz
    ldf := if s.work.lz = -1 then true else s.ldf }

/-- Steps 6 and 7: the CRC check, then the report (R170). -/
def State.report (s : State) : State :=
  if validAddress s.srom then { s with addr := s.srom, sres := .deviceFound }
  else s.endSearch .crcFault

/-! ### The sequencer's actions -/

/-- Whether the command goes on after an action or ends by `return` (R11). -/
inductive Flow where
  | go (s : State)
  | stop (s : State)

/-- Time an action takes, in sequencer cycles: `Wait(n)` is n × TICKS_PER_US, line actions take zero
time (R100), and the parts with no line time take the counts of R243. -/
def MicroOp.cycles (op : MicroOp) (s : State) : Nat :=
  match op with
  | .wait us => us * s.params.ticksPerUs
  | .slotLow b => slotLowTime (s.bitOf b) * s.params.ticksPerUs
  | .slotRest b => slotRestTime (s.bitOf b) * s.params.ticksPerUs
  | .pollWait => if s.work.floated then 0 else 2 * s.params.ticksPerUs
  | .checkLastDevice => if s.ldf then 1 else 0
  | .conclude => 1
  | .searchInit => 1
  | .crcClear => 1
  | .crcByte => 8
  | .crcAddr n => 8 * n
  | .lineLow | .lineHigh | .lineRelease | .sample _ | .pollSample => 0
  | .requireFloat _ | .recordPresence | .requirePresence | .storeData => 0
  | .atPosition _ | .chooseDirection => 0

/-- `Sample()` in the float-high poll of BusReset, unless the loop has been left (R110). -/
def State.pollOnce (s : State) : State :=
  if s.work.floated then s
  else { s.takeSample with work := { s.work with floated := s.nextAnswer } }

/-- The end of the float-high poll (R110): with the line never seen high, SHORT and PRES record it and
the command ends, SEARCH_NEXT's by way of Reinit and NO_DEVICES (R170 step 2, R201 cause 2). -/
def State.requireFloat (s : State) (forSearch : Bool) : Flow :=
  if s.work.floated then .go { s with short := false }
  else if forSearch then .stop ({ s with short := true, pres := false }.endSearch .noDevices)
  else .stop { s with short := true, pres := false }

/-- The effect of one action (R12, R110 to R114, R150 to R152, R165, R170). -/
def perform (op : MicroOp) (s : State) : Flow :=
  match op with
  | .lineLow => .go (s.drive .driveLow .low)
  | .lineHigh => .go (s.drive .driveHigh .high)
  | .lineRelease => .go (s.drive .released .release)
  | .wait us => .go (s.record (.wait us))
  | .slotLow b => .go (s.record (.wait (slotLowTime (s.bitOf b))))
  | .slotRest b => .go (s.record (.wait (slotRestTime (s.bitOf b))))
  | .sample t => .go { s.takeSample with work := s.work.store t s.nextAnswer }
  | .pollWait => .go (if s.work.floated then s else s.record (.wait 2))
  | .pollSample => .go s.pollOnce
  | .requireFloat forSearch => s.requireFloat forSearch
  | .recordPresence => .go { s with pres := !s.work.presence }
  | .requirePresence => if s.pres then .go s else .stop (s.endSearch .noDevices)
  | .storeData => .go { s with data := s.work.value }
  | .checkLastDevice => if s.ldf then .stop (s.endSearch .exhausted) else .go s
  | .atPosition p => .go { s with work := { s.work with pos := p } }
  | .chooseDirection =>
    if s.work.b && s.work.cb then .stop (s.endSearch .noDevices) else .go s.takeDirection
  | .conclude => .go s.bookkeep.report
  | .searchInit => .go (s.endSearch .none)
  | .crcClear => .go { s with crc := 0x00 }
  | .crcByte => .go { s with crc := crc8Step s.crc s.work.latch }
  | .crcAddr n => .go { s with crc := crc8 s.addr.toList n }

/-! ### Running a command -/

/-- The command's pseudocode has ended: BUSY falls and no variable survives (R11, R20, R39). -/
def State.complete (s : State) : State := { s with phase := .idle, work := Work.clear }

/-- c cycles pass and the current action is over. -/
def State.spend (s : State) (c : Nat) : State :=
  { s with clock := s.clock + c, work := { s.work with elapsed := 0 } }

/-- g cycles pass inside the first action of ops, and an access is due. -/
def State.pause (s : State) (ops : List MicroOp) (g : Nat) : State :=
  { s with
    clock := s.clock + g
    work := { s.work with rest := ops, elapsed := s.work.elapsed + g } }

/-- The actions that end within the budget of cycles, `none` being no limit, are performed in order, up
to the end of the command; an action that the budget ends in stays the current one. -/
def runSeq : Option Nat → List MicroOp → State → State
  | _, [], s => s.complete
  | none, op :: rest, s =>
    match perform op (s.spend (op.cycles s - s.work.elapsed)) with
    | .go s' => runSeq none rest s'
    | .stop s' => s'.complete
  | some g, op :: rest, s =>
    if op.cycles s - s.work.elapsed ≤ g then
      match perform op (s.spend (op.cycles s - s.work.elapsed)) with
      | .go s' => runSeq (some (g - (op.cycles s - s.work.elapsed))) rest s'
      | .stop s' => s'.complete
    else s.pause (op :: rest) g

/-- Cycles until the next scheduled event, `none` if there is none. -/
def State.budget (s : State) : Option Nat := s.pending.head?.map fun p => p.time - s.clock

/-- The sequencer goes on until its command ends or the next event is due; "The sequencer has no step
of its own while idle" (R5). -/
def State.proceed (s : State) : State :=
  match s.phase with
  | .idle => s
  | .busy _ => runSeq s.budget s.work.rest s

/-- Acceptance of command c: the CMD byte becomes the value read back, BUSY becomes 1, and the operands
are latched (R22, R40, R52). -/
def State.accept (s : State) (c : Instr) : State :=
  { s with cmd := encode c, phase := .busy c, work := { Work.clear with latch := s.data } }

/-- Accept command c and run its actions until it ends or the next event is due. Every meaning is this
with the command's own list of actions. -/
def runCommand (c : Instr) (actions : List MicroOp) (s : State) : State :=
  runSeq s.budget actions (s.accept c)

/-! ### Host accesses -/

/-- The command that a write of v to an offset issues: a legal byte written to CMD while idle (R52).
While rst_n is low the block is held in its reset state and accepts nothing (log entry 7). -/
def State.issued (s : State) (off : Fin 32) (v : Byte) : Option Instr :=
  if s.rstN && !s.busy then
    match registerAt off with
    | .cmd => decode? v
    | .status | .data | .crc | .lastDisc | .addr _ | .srom _ | .reserved => none
  else none

/-- A host write while idle, other than one that issues a command (R51, R52). -/
def State.writeIdle (s : State) (r : Register) (v : Byte) : State :=
  match r with
  | .cmd => { s with err := true }
  | .status => s.writeStatus v
  | .data => { s with data := v }
  | .crc => { s with crc := v }
  | .addr k => { s with addr := s.addr.set k v }
  | .lastDisc | .srom _ | .reserved => s

/-- A host write while busy: refused for CMD, DATA, CRC and ADDR, with ERR set (R53). -/
def State.writeBusy (s : State) (r : Register) (v : Byte) : State :=
  match r with
  | .cmd | .data | .crc | .addr _ => { s with err := true }
  | .status => s.writeStatus v
  | .lastDisc | .srom _ | .reserved => s

/-- `MemWrite(off, 1, v)`, other than one that issues a command (R51 to R53). While rst_n is low the
registers hold their reset values (R230, log entry 7). -/
def State.hostWrite (s : State) (off : Fin 32) (v : Byte) : State :=
  if s.rstN then
    if s.busy then s.writeBusy (registerAt off) v else s.writeIdle (registerAt off) v
  else s

/-- Is a read of register r a draw at this moment (R55)? -/
def State.isDraw (s : State) (r : Register) : Bool :=
  match s.phase with
  | .idle => false
  | .busy c => mayWrite c r

/-- The byte `MemRead(off, 1)` returns (R54, R55). -/
def State.readValue (s : State) (off : Fin 32) : Byte :=
  if s.isDraw (registerAt off) then Config.freeByte s.readDraws else s.peek (registerAt off)

/-- `MemRead(off, 1)`: the reply is recorded, and no state of the OWC changes (R54). -/
def State.hostRead (s : State) (off : Fin 32) : State :=
  { s with
    replies := (off, s.readValue off) :: s.replies
    readDraws := if s.isDraw (registerAt off) then s.readDraws + 1 else s.readDraws }

/-! ### Block reset -/

/-- The reset state of R230: registers, phase, line driver. The rest of State is no register of the
block. -/
def State.resetBlock (s : State) : State :=
  { s with
    cmd := 0x00, pres := false, short := false, ldf := false, sres := .none, err := false
    data := 0x00, crc := 0x00, lastDisc := 0xFF, addr := Bytes8.zero, srom := Bytes8.zero
    phase := .idle, work := Work.clear, line := .released }

/-- Port rst_n takes a level (R230 to R232). The block takes its reset state while rst_n is low and at
the edge where it rises; a high level on a port that is high already is no edge and changes nothing. When
rst_n falls, a running command is abandoned and the line is released at once, which goes on the trace
(R231, log entry 7). -/
def State.setRstN (s : State) (high : Bool) : State :=
  if s.rstN && high then s
  else { s.resetBlock with
    rstN := high
    log := if s.rstN then .release :: s.log else s.log }

end Sys2Proof.Machine
end

