-- ==== Sys2Proof/Machine/BusLine.lean ====
section
/-! DEFINITION. The 1-Wire bus controller: the wire procedures of 40_busline.md section 2 as lists of
actions, and the meanings of RESET, WBIT, RBIT, WBYTE, RBYTE and SELECT (section 3). -/

namespace Sys2Proof.Machine

open Sys2Proof

/-- The bits of a byte in the order they cross the line, least significant first (R64). -/
def byteBits : List (Fin 8) := [0, 1, 2, 3, 4, 5, 6, 7]

/-- The bytes of an address in the order they cross the line, byte 0 first (R65). -/
def addressBytes : List (Fin 8) := [0, 1, 2, 3, 4, 5, 6, 7]

/-- One iteration of the float-high poll: `Wait(2)`, then `Sample()` (R110). -/
def pollIteration : List MicroOp := [.pollWait, .pollSample]

/-- `BusReset()` (R110): release, up to 125 polls, and if the line floated the reset pulse, the presence
sample and the recovery. -/
def busReset (forSearch : Bool) : List MicroOp :=
  [.lineRelease] ++ (List.replicate 125 pollIteration).flatten ++ [.requireFloat forSearch] ++
    [.lineLow, .wait 500, .lineRelease, .wait 65, .sample .presence, .wait 490, .recordPresence]

/-- `WriteBitWire(b)` (R111). -/
def writeBitWire (b : BitSource) : List MicroOp :=
  [.lineLow, .slotLow b, .lineRelease, .slotRest b]

/-- `ReadBitWire()`, its sample put into t (R112). -/
def readBitWire (t : SampleTarget) : List MicroOp :=
  [.lineLow, .wait 3, .lineRelease, .wait 10, .sample t, .wait 53]

/-- `WriteByteWire(v, hold)` (R113). -/
def writeByteWire (v : ByteSource) (hold : Bool) : List MicroOp :=
  byteBits.flatMap (fun i => writeBitWire (.byteBit v i)) ++ (if hold then [.lineHigh] else [])

/-- `ReadByteWire()` (R114). -/
def readByteWire : List MicroOp := byteBits.flatMap fun i => readBitWire (.value i)

/-- RESET: `BusReset()` (R120). -/
def execReset (s : State) : Host.Outcome State Fault Refusal :=
  .next (runCommand .reset (busReset false) s)

/-- WBIT b: `WriteBitWire(b)` (R121). -/
def execWbit (b : Bool) (s : State) : Host.Outcome State Fault Refusal :=
  .next (runCommand (.wbit b) (writeBitWire (.imm b)) s)

/-- RBIT: `DATA <- zext_8(ReadBitWire())` (R122). -/
def execRbit (s : State) : Host.Outcome State Fault Refusal :=
  .next (runCommand .rbit (readBitWire (.value 0) ++ [.storeData]) s)

/-- WBYTE p: `WriteByteWire(DATA, p)` with DATA as latched (R123). -/
def execWbyte (p : Bool) (s : State) : Host.Outcome State Fault Refusal :=
  .next (runCommand (.wbyte p) (writeByteWire .latch p) s)

/-- RBYTE: `DATA <- ReadByteWire()`, written only at the end (R124). -/
def execRbyte (s : State) : Host.Outcome State Fault Refusal :=
  .next (runCommand .rbyte (readByteWire ++ [.storeData]) s)

/-- SELECT: MATCH_ROM_CMD, then ADDR[0] to ADDR[7] (R125). -/
def execSelect (s : State) : Host.Outcome State Fault Refusal :=
  .next (runCommand .select
    (writeByteWire .matchRomCmd false ++
      addressBytes.flatMap (fun k => writeByteWire (.addr k) false)) s)

end Sys2Proof.Machine
end

