-- ==== Sys2Proof/Machine/CrcUnit.lean ====
section
/-! DEFINITION. The CRC-8 generator's commands (41_crc8.md section 2). None performs a line action. -/

namespace Sys2Proof.Machine

open Sys2Proof

/-- CRC_CLEAR: `CRC <- 0x00` (R150). -/
def execCrcClear (s : State) : Host.Outcome State Fault Refusal :=
  .next (runCommand .crcClear [.crcClear] s)

/-- CRC_BYTE: `CRC <- crc8_step(CRC, DATA)` with DATA as latched (R151). -/
def execCrcByte (s : State) : Host.Outcome State Fault Refusal :=
  .next (runCommand .crcByte [.crcByte] s)

/-- CRC_ADDR n: `CRC <- crc8(ADDR, n)`, from the seed and not from the old CRC (R152). -/
def execCrcAddr (n : Nat) (s : State) : Host.Outcome State Fault Refusal :=
  .next (runCommand (.crcAddr n) [.crcAddr n] s)

end Sys2Proof.Machine
end

