-- ==== Sys2Proof/Machine/DeviceSearch.lean ====
section
/-! DEFINITION. The device-search engine's commands (42_search.md section 2). -/

namespace Sys2Proof.Machine

open Sys2Proof

/-- The 64 bit positions in increasing order (R65, R161). -/
def positions : List BitPosition := List.finRange 64

/-- One iteration of step 4: the bit, its complement, the direction, and the write slot (R170). -/
def searchPosition (p : BitPosition) : List MicroOp :=
  [.atPosition p] ++ readBitWire .bit ++ readBitWire .complement ++ [.chooseDirection] ++
    writeBitWire .dir

/-- SEARCH_INIT: `Reinit()`, then `STATUS.SRES <- NONE` (R165). -/
def execSearchInit (s : State) : Host.Outcome State Fault Refusal :=
  .next (runCommand .searchInit [.searchInit] s)

/-- SEARCH_NEXT, steps 1 to 7 (R170, R171). -/
def execSearchNext (s : State) : Host.Outcome State Fault Refusal :=
  .next (runCommand .searchNext
    ([.checkLastDevice] ++ busReset true ++ [.requirePresence] ++ writeByteWire .searchRomCmd false ++
      positions.flatMap searchPosition ++ [.conclude]) s)

end Sys2Proof.Machine
end

