-- ==== Sys2Proof/Machine/Dispatch.lean ====
section
/-! DEFINITION. One arm per command. -/

namespace Sys2Proof.Machine

open Sys2Proof

def exec (i : Instr) (s : State) : Host.Outcome State Fault Refusal :=
  match i with
  -- 40_busline.md
  | .reset => Sys2Proof.Machine.execReset s
  | .wbit b => Sys2Proof.Machine.execWbit b s
  | .rbit => Sys2Proof.Machine.execRbit s
  | .wbyte p => Sys2Proof.Machine.execWbyte p s
  | .rbyte => Sys2Proof.Machine.execRbyte s
  | .select => Sys2Proof.Machine.execSelect s
  -- 42_search.md
  | .searchInit => Sys2Proof.Machine.execSearchInit s
  | .searchNext => Sys2Proof.Machine.execSearchNext s
  -- 41_crc8.md
  | .crcClear => Sys2Proof.Machine.execCrcClear s
  | .crcByte => Sys2Proof.Machine.execCrcByte s
  | .crcAddr n => Sys2Proof.Machine.execCrcAddr n s

end Sys2Proof.Machine
end

