-- ==== Sys2Proof/Machine/Access.lean ====
section
/-! DEFINITION. An event at the block's ports: host accesses of the register window and rst_n (R11, R50
to R55, R60, R230). -/

namespace Sys2Proof.Machine

open Sys2Proof

/-- A one-byte host write at a window offset: it issues a command, or acts on a register (R51 to R53). -/
def landWrite (off : Fin 32) (v : Byte) (s : State) : Host.Outcome State Fault Refusal :=
  match s.issued off v with
  | some c => exec c s
  | none => .next (s.hostWrite off v)

/-- The window offset that an access selects: none for an access of a width other than one byte or
outside the window, which is "outside the interface" (R60). -/
def State.selected (s : State) (address width : Nat) : Option (Fin 32) :=
  if width = 1 then s.offsetOf address else none

/-- The effect of an event at the moment it happens. An access outside the interface is refused in the
sense of I3: it "has no effect", and the block goes on unchanged (R60, log entry 6). -/
def land (e : HostEvent) (s : State) : Host.Outcome State Fault Refusal :=
  match e with
  | .read address width =>
    match s.selected address width with
    | some off => .next (s.hostRead off)
    | none => .next s
  | .write address width v =>
    match s.selected address width with
    | some off => landWrite off v s
    | none => .next s
  | .rstN high => .next (s.setRstN high)

/-- The next scheduled event is taken off the list and the clock stands at its time, or where it stood
if that time has passed. -/
def State.arrive (s : State) (p : Scheduled) (rest : List Scheduled) : State :=
  { s with pending := rest, clock := max s.clock p.time }

/-- One step. With an event scheduled, the sequencer goes on until the event is due and the event
happens, a command it issues running until the event after it. With none, a running command runs to
its end, and an idle block waits (R5, R233; log entry 8). -/
def stepMachine (s : State) : Host.Outcome State Fault Refusal :=
  match s.pending with
  | [] => .next s.proceed
  | p :: rest => land p.event (s.proceed.arrive p rest)

end Sys2Proof.Machine
end

