-- ==== Sys2Proof/Machine/Step.lean ====
section
/-! DEFINITION. The step of the machine, and where it takes its next command from. -/

namespace Sys2Proof.Machine

open Sys2Proof

/-- One step of the machine. -/
def step (s : State) : Host.Outcome State Fault Refusal := stepMachine s

/-- The block is idle and out of reset, and the host's next access, due now, writes to CMD the byte
whose nbits bits are w: the next step runs that command (R51, R52; log entry 8). On a state that is
idle and out of reset nothing but the schedule changes. -/
def State.withFetchWord (s : State) (nbits w : Nat) : State :=
  { s with
    phase := .idle
    work := Work.clear
    rstN := true
    pending := ⟨s.clock, .write s.params.owcBase 1 (BitVec.ofNat 8 (w % 2 ^ nbits))⟩ :: s.pending }

end Sys2Proof.Machine
end

