-- ==== Sys2Proof/Machine/Assembler.lean ====
section
/-! DEFINITION. The assembler's command lines, the host-access lines and the pseudo-instructions with
their expansions (R77, R78), and what a list of lines does to a block that nothing else reaches. -/

namespace Sys2Proof.Machine

open Sys2Proof

/-- A 0 or 1 operand as text. -/
def bitText (b : Bool) : String := if b then "1" else "0"

/-- A command as the assembler writes it, `MNEMONIC [operand]` (R77). -/
def commandText : Instr → String
  | .reset => "RESET"
  | .wbit b => "WBIT " ++ bitText b
  | .rbit => "RBIT"
  | .wbyte p => "WBYTE " ++ bitText p
  | .rbyte => "RBYTE"
  | .select => "SELECT"
  | .searchInit => "SEARCH_INIT"
  | .searchNext => "SEARCH_NEXT"
  | .crcClear => "CRC_CLEAR"
  | .crcByte => "CRC_BYTE"
  | .crcAddr n => "CRC_ADDR " ++ toString n

/-- A line of a host program (R77), `WAIT` (R78) among them. -/
inductive HostLine where
  /-- `WR off, v` is `MemWrite(off, 1, v)` -/
  | wr (off : Fin 32) (v : Byte)
  /-- `RD off -> name` is `MemRead(off, 1)` -/
  | rd (off : Fin 32)
  /-- `WAIT`: read STATUS until BUSY = 0 -/
  | wait
deriving DecidableEq, Repr

/-- `ISSUE m` is `WR 0x00, enc(m)` (R77). -/
def issue (m : Instr) : List HostLine := [.wr 0x00 (encode m)]

/-- `DO m`: `ISSUE m` then `WAIT` (R78). -/
def doCommand (m : Instr) : List HostLine := issue m ++ [.wait]

/-- `LD v`: `WR DATA, v` (R78). -/
def ld (v : Byte) : List HostLine := [.wr 0x02 v]

/-- `LDADDR a0..a7`: `WR 0x08, a0` through `WR 0x0F, a7` (R78). -/
def ldAddr (a : Bytes8) : List HostLine :=
  [.wr 0x08 a[0], .wr 0x09 a[1], .wr 0x0A a[2], .wr 0x0B a[3],
    .wr 0x0C a[4], .wr 0x0D a[5], .wr 0x0E a[6], .wr 0x0F a[7]]

/-- `CLRERR`: `WR STATUS, 0x80` (R78). -/
def clrErr : List HostLine := [.wr 0x01 0x80]

/-- `WBYTE_V v`: `LD v` then `DO WBYTE 0` (R78). -/
def wbyteV (v : Byte) : List HostLine := ld v ++ doCommand (.wbyte false)

/-- `CRC8 b1..bk`: `DO CRC_CLEAR`, then for each byte `LD bi` and `DO CRC_BYTE` (R78). -/
def crc8Lines (bytes : List Byte) : List HostLine :=
  doCommand .crcClear ++ bytes.flatMap fun b => ld b ++ doCommand .crcByte

/-- s once the running command has ended, if no further event happens. -/
def State.finish (s : State) : State :=
  match s.phase with
  | .idle => s
  | .busy _ => runSeq none s.work.rest s

/-- What a line does. Of the reads of `WAIT` only the last one, which sees BUSY = 0, is put on the
record of replies (log entry 15). -/
def runLine (l : HostLine) (s : State) : Host.Outcome State Fault Refusal :=
  match l with
  | .wr off v => landWrite off v s
  | .rd off => .next (s.hostRead off)
  | .wait => .next (s.finish.hostRead 0x01)

/-- The lines in order. -/
def runLines : List HostLine → State → Host.Outcome State Fault Refusal
  | [], s => .next s
  | l :: rest, s =>
    match runLine l s with
    | .next s' => runLines rest s'
    | .fault f => .fault f
    | .refused r => .refused r

end Sys2Proof.Machine
end

