-- ==== Sys2Proof/Safety.lean ====
section
/-! DEFINITION. The terms the claims are stated in: the bus's answers by number, waveforms of slots, the
search as a recursion, the invariant of the machine, and a bus whose devices obey the pruning
assumption of R164 (an assumption about the bus, no rule of the block). -/

namespace Sys2Proof.Machine

open Sys2Proof

/-! ### Answers of the bus -/

/-- The answer that the k-th `Sample()` from state s gets, counting from 0 (R6). -/
def State.answer (s : State) (k : Nat) : Bool :=
  s.answers.getD k (Config.freeSample (s.sampleDraws + (k - s.answers.length)))

/-- s after n samples have been answered, with nothing else changed. -/
def State.consume (s : State) (n : Nat) : State :=
  { s with answers := s.answers.drop n, sampleDraws := s.sampleDraws + (n - s.answers.length) }

/-- The float-high poll of BusReset (R110): the number, counting from 0, of the first of 125 samples
that reads high. -/
def State.floatsAt (s : State) : Option Nat := (List.range 125).find? s.answer

/-! ### Waveforms -/

/-- The waveform of a write slot (R111). -/
def writeSlot (b : Bool) : List LineAction :=
  if b then [.low, .wait 10, .release, .wait 55] else [.low, .wait 65, .release, .wait 5]

/-- The waveform of a read slot whose sample answers r (R112). -/
def readSlot (r : Bool) : List LineAction :=
  [.low, .wait 3, .release, .wait 10, .sample r, .wait 53]

/-- The waveform of a byte: 8 write slots, least significant bit first (R64, R113). -/
def writeByteSlots (v : Byte) : List LineAction :=
  ([0, 1, 2, 3, 4, 5, 6, 7] : List Nat).flatMap fun i => writeSlot (v.getLsbD i)

/-- The waveform of a float-high poll that first reads high at sample k (R110). -/
def pollSlots (k : Nat) : List LineAction :=
  (List.replicate k [.wait 2, .sample false]).flatten ++ [.wait 2, .sample true]

/-- The waveform of a bus reset whose line floats at sample k and whose presence sample answers r
(R110). -/
def resetSlots (k : Nat) (r : Bool) : List LineAction :=
  [.release] ++ pollSlots k ++ [.low, .wait 500, .release, .wait 65, .sample r, .wait 490]

/-- The waveform of a bus reset whose line never floats high (R110). -/
def shortedSlots : List LineAction :=
  [.release] ++ (List.replicate 125 [.wait 2, .sample false]).flatten

/-- Line time of a waveform in microseconds: the sum of its waits (R100). -/
def lineTime : List LineAction → Nat
  | [] => 0
  | .wait us :: rest => us + lineTime rest
  | .low :: rest => lineTime rest
  | .high :: rest => lineTime rest
  | .release :: rest => lineTime rest
  | .sample _ :: rest => lineTime rest

/-- The number of 0 bits of a byte, the `z` of R113 and R242. -/
def zeroBits (v : Byte) : Nat :=
  (([0, 1, 2, 3, 4, 5, 6, 7] : List Nat).filter fun i => !v.getLsbD i).length

/-! ### The search algorithm, written as a recursion -/

/-- What a scan of bit positions leaves. -/
structure Scan where
  /-- a position read both ones, and the scan ended there -/
  aborted : Bool
  srom : Bytes8
  lz : Int
  trace : List LineAction
  /-- how many samples it took -/
  samples : Nat
deriving DecidableEq, Repr

/-- Step 4 of DeviceSearch over a list of positions (R170), from the j-th answer on, with the LASTDISC
the previous pass left, a candidate address and an lz. -/
def scan (disc : Int) (answer : Nat → Bool) : List BitPosition → Nat → Bytes8 → Int → Scan
  | [], j, srom, lz => ⟨false, srom, lz, [], j⟩
  | p :: ps, j, srom, lz =>
    let b := answer j
    let cb := answer (j + 1)
    let reads := readSlot b ++ readSlot cb
    match b, cb with
    | true, true => ⟨true, srom, lz, reads, j + 2⟩
    | _, _ =>
      let dir :=
        if b != cb then b
        else if (p.val : Int) < disc then addressBit srom p
        else decide ((p.val : Int) = disc)
      let lz' := if b = cb ∧ dir = false then (p.val : Int) else lz
      let r := scan disc answer ps (j + 2) (setAddressBit srom p dir) lz'
      { r with trace := reads ++ writeSlot dir ++ r.trace }

/-! ### Registers a command writes -/

/-- The window offsets of the registers each command may write, as R55 lists them. -/
def offsetsWritten : Instr → List Nat
  | .reset | .wbit _ | .wbyte _ | .select => []
  | .rbit | .rbyte => [0x02]
  | .crcClear | .crcByte | .crcAddr _ => [0x03]
  | .searchNext => [0x04, 0x08, 0x09, 0x0A, 0x0B, 0x0C, 0x0D, 0x0E, 0x0F,
      0x10, 0x11, 0x12, 0x13, 0x14, 0x15, 0x16, 0x17]
  | .searchInit => [0x04, 0x10, 0x11, 0x12, 0x13, 0x14, 0x15, 0x16, 0x17]

/-! ### The invariant -/

/-- Whether an action can end a command by `return` (R110, R170). -/
def MicroOp.mayReturn : MicroOp → Bool
  | .requireFloat _ | .requirePresence | .checkLastDevice | .chooseDirection => true
  | .lineLow | .lineHigh | .lineRelease | .wait _ | .slotLow _ | .slotRest _ | .sample _ => false
  | .pollWait | .pollSample | .recordPresence | .storeData | .atPosition _ | .conclude => false
  | .searchInit | .crcClear | .crcByte | .crcAddr _ => false

/-- LSTATE after an action performed from LSTATE l (R12). -/
def MicroOp.lineAfter (l : LineState) : MicroOp → LineState
  | .lineLow => .driveLow
  | .lineHigh => .driveHigh
  | .lineRelease => .released
  | .wait _ | .slotLow _ | .slotRest _ | .sample _ | .pollWait | .pollSample => l
  | .requireFloat _ | .recordPresence | .requirePresence | .storeData | .checkLastDevice => l
  | .atPosition _ | .chooseDirection | .conclude | .searchInit => l
  | .crcClear | .crcByte | .crcAddr _ => l

/-- Performing these actions from LSTATE l never ends a command with the line driven low. -/
def endsNotLow : LineState → List MicroOp → Bool
  | l, [] => l != .driveLow
  | l, op :: rest =>
    (!op.mayReturn || l != .driveLow) && endsNotLow (op.lineAfter l) rest

/-- Among these actions every `STATUS.PRES <- 1 - s` comes after the check that clears SHORT (R110). -/
def shortClearedFirst : List MicroOp → Bool
  | [] => true
  | .requireFloat _ :: _ => true
  | .recordPresence :: _ => false
  | _ :: rest => shortClearedFirst rest

/-- The invariant of the machine. -/
structure State.Inv (s : State) : Prop where
  /-- LASTDISC is a position or "none": "No other value can appear" (R32). -/
  lastDisc_legal : s.lastDisc = 0xFF ∨ s.lastDisc.toNat ≤ 63
  /-- "PRES = 1 implies SHORT = 0" (R26). -/
  presence_not_short : s.pres = true → s.short = false
  /-- TICKS_PER_US is at least 1 (R8). -/
  ticks_positive : 1 ≤ s.params.ticksPerUs
  /-- `lz` is a position or -1 (R39). -/
  lz_legal : -1 ≤ s.work.lz ∧ s.work.lz ≤ 63
  /-- No variable of a command survives it (R39). -/
  idle_clear : s.phase = .idle → s.work = Work.clear
  /-- "Between commands the line is released, or driven high after holdPower, and never held low"
  (R237). -/
  idle_not_low : s.phase = .idle → s.line ≠ .driveLow
  /-- A running command will not leave the line low. -/
  busy_ends_not_low : s.busy = true → endsNotLow s.line s.work.rest = true
  /-- A running command clears SHORT before it can set PRES. -/
  busy_short_cleared : s.busy = true → s.short = true → shortClearedFirst s.work.rest = true
  /-- "While `rst_n` = 0 ... the OWC takes this reset state" (R230). -/
  held_in_reset : s.rstN = false → s.resetBlock = s

/-! ### A bus of devices (R13, R164) -/

/-- Address a agrees with the directions d at every position before p: the device still takes part. -/
def takesPart (d : Bytes8) (p : BitPosition) (a : Bytes8) : Bool :=
  positions.all fun q => decide (p ≤ q) || addressBit a q == addressBit d q

/-- What the first read slot of position p reads when the directions d have been written before it:
the AND of the participating devices' bits (R164). -/
def firstSlot (devices : List Bytes8) (d : Bytes8) (p : BitPosition) : Bool :=
  (devices.filter (takesPart d p)).all fun a => addressBit a p

/-- What the second read slot of position p reads: the AND of the complements (R164). -/
def secondSlot (devices : List Bytes8) (d : Bytes8) (p : BitPosition) : Bool :=
  (devices.filter (takesPart d p)).all fun a => !addressBit a p

/-- The answers to one whole pass in which the directions written are d: the line floats at poll sample
k, presence, then the two slots of the 64 positions. -/
def passAnswers (devices : List Bytes8) (k : Nat) (d : Bytes8) : List Bool :=
  List.replicate k false ++ [true, false] ++
    positions.flatMap fun p => [firstSlot devices d p, secondSlot devices d p]

/-- Bit sequence of a before that of b, compared from position 0 upward with 0 before 1 (R173). -/
def lexBefore (a b : Bytes8) : Prop :=
  ∃ p : BitPosition, (∀ q : BitPosition, q < p → addressBit a q = addressBit b q) ∧
    addressBit a p = false ∧ addressBit b p = true

end Sys2Proof.Machine
end

