-- ==== Sys2Proof/Certificates/Slice0/Obligations.lean ====
section
/-! DEFINITION. The statements for the provers. A statement about a command run without interruption
assumes `s.pending = []`; `LaterEventsDoNotMatter` and `PausedCommandResumes` carry it to every schedule. -/

open Sys2Proof Sys2Proof.Machine

/-! ### Encoding (30_encoding.md) -/

/-- R70 to R73: the decoder gives back every well-formed command from its CMD byte. -/
def Obligations.DecodeOfEncode : Prop :=
  ∀ i : Instr, i.wellFormed = true → decode (encode i) = .ok i

/-- R71, R76: exactly 20 bytes are legal, and a legal byte is the encoding of the one well-formed
command it stands for. -/
def Obligations.LegalBytesAreTheTwenty : Prop :=
  ∀ v : Byte,
    ((∃ i, decode v = .ok i) ↔
      v ∈ ([0x10, 0x20, 0x21, 0x30, 0x40, 0x41, 0x50, 0x60, 0x70, 0x80, 0x90, 0xA0,
        0xB0, 0xB1, 0xB2, 0xB3, 0xB4, 0xB5, 0xB6, 0xB7] : List Byte)) ∧
    ∀ i, decode v = .ok i → encode i = v ∧ i.wellFormed = true

/-- R73, R74: an illegal byte is rejected by name: a reserved OP (0x0, 0xC to 0xF), or a nonzero bit
where R71 requires 0. -/
def Obligations.IllegalBytesRejectedByName : Prop :=
  ∀ v : Byte,
    (v.toNat < 0x10 ∨ 0xC0 ≤ v.toNat → decode v = .error (.reservedOp (opField v))) ∧
    (0x10 ≤ v.toNat → v.toNat < 0xC0 → (∀ i, i.wellFormed = true → encode i ≠ v) →
      decode v = .error (.nonzeroMod (opField v) (modField v)))

/-- R71, R72: some of the spec's own encodings, bit 7 first. A sanity statement. -/
def Obligations.SpecWordsDecode : Prop :=
  decode 0b00010000 = .ok .reset ∧ decode 0b00100001 = .ok (.wbit true) ∧
  decode 0b01000000 = .ok (.wbyte false) ∧ decode 0b01100000 = .ok .select ∧
  decode 0b10000000 = .ok .searchNext ∧ decode 0b10110110 = .ok (.crcAddr 7)

/-! ### Issuing a command (R22, R52) -/

/-- R52, R56: when the next access is a write of a legal byte to CMD and the block is idle, the step is
`exec` of the decoded command, with the access off the schedule and the clock at its time. -/
def Obligations.StepRunsIssuedCommand : Prop :=
  ∀ (s : State) (p : Scheduled) (rest : List Scheduled) (v : Byte) (i : Instr),
    s.phase = .idle → s.rstN = true → s.pending = p :: rest →
    p.event = .write s.params.owcBase 1 v → decode v = .ok i →
    step s = exec i { s with pending := rest, clock := max s.clock p.time }

/-- The state the model's `withFetchWord` builds runs the command of the word at the very next step
(log entry 8). -/
def Obligations.FetchWordRunsDecodedCommand : Prop :=
  ∀ (s : State) (nbits w : Nat) (i : Instr),
    s.rstN = true → decodeTableWord nbits w = some i → step (s.withFetchWord nbits w) = exec i s

/-- R52, R74: a write of an illegal byte to CMD while idle sets ERR and changes nothing else. -/
def Obligations.IllegalCommandOnlySetsErr : Prop :=
  ∀ (s : State) (p : Scheduled) (rest : List Scheduled) (v : Byte),
    s.phase = .idle → s.rstN = true → s.pending = p :: rest →
    p.event = .write s.params.owcBase 1 v → (∀ i, decode v ≠ .ok i) →
    step s = .next { s with pending := rest, clock := max s.clock p.time, err := true }

/-! ### Host accesses (20_memory.md, 10_state.md) -/

/-- R51: the effect of a one-byte host write at OWC_BASE + off while idle, offset by offset. -/
def Obligations.IdleWriteEffects : Prop :=
  ∀ (s : State) (v : Byte) (off : Fin 32), s.phase = .idle → s.rstN = true →
    let o := land (.write (s.params.owcBase + off.val) 1 v) s
    (off.val = 0x00 → ∀ i, decode v = .ok i → o = exec i s) ∧
    (off.val = 0x00 → (∀ i, decode v ≠ .ok i) → o = .next { s with err := true }) ∧
    (off.val = 0x01 → o = .next { s with err := s.err && !v.getLsbD 7 }) ∧
    (off.val = 0x02 → o = .next { s with data := v }) ∧
    (off.val = 0x03 → o = .next { s with crc := v }) ∧
    (∀ k : Fin 8, off.val = 0x08 + k.val → o = .next { s with addr := s.addr.set k v }) ∧
    ((0x04 ≤ off.val ∧ off.val ≤ 0x07) ∨ 0x10 ≤ off.val → o = .next s)

/-- R53: while busy, a one-byte write at OWC_BASE + off to CMD, DATA, CRC or ADDR has no effect but ERR; a write to STATUS acts; a
write anywhere else is ignored. -/
def Obligations.BusyWriteRefused : Prop :=
  ∀ (s : State) (c : Instr) (v : Byte) (off : Fin 32), s.phase = .busy c → s.rstN = true →
    let o := land (.write (s.params.owcBase + off.val) 1 v) s
    (off.val = 0x00 ∨ off.val = 0x02 ∨ off.val = 0x03 ∨ (0x08 ≤ off.val ∧ off.val ≤ 0x0F) →
      o = .next { s with err := true }) ∧
    (off.val = 0x01 → o = .next { s with err := s.err && !v.getLsbD 7 }) ∧
    ((0x04 ≤ off.val ∧ off.val ≤ 0x07) ∨ 0x10 ≤ off.val → o = .next s)

/-- R54, R35: a read while idle returns the register and changes nothing but the record of replies. -/
def Obligations.IdleReadReturnsRegister : Prop :=
  ∀ (s : State) (off : Fin 32), s.phase = .idle →
    (land (.read (s.params.owcBase + off.val) 1) s =
      .next { s with replies := (off, s.readValue off) :: s.replies }) ∧
    (off.val = 0x00 → s.readValue off = s.cmd) ∧
    (off.val = 0x01 → s.readValue off = s.status) ∧
    (off.val = 0x02 → s.readValue off = s.data) ∧
    (off.val = 0x03 → s.readValue off = s.crc) ∧
    (off.val = 0x04 → s.readValue off = s.lastDisc) ∧
    (∀ k : Fin 8, off.val = 0x08 + k.val → s.readValue off = s.addr[k]) ∧
    (∀ k : Fin 8, off.val = 0x10 + k.val → s.readValue off = s.srom[k]) ∧
    ((0x05 ≤ off.val ∧ off.val ≤ 0x07) ∨ 0x18 ≤ off.val → s.readValue off = 0x00)

/-- R55: a read while busy changes no register; it returns the exact value, CMD and STATUS included,
unless the running command may write the register. Of the byte returned there nothing is said: the rule
gives "any value". -/
def Obligations.BusyReadExactUnlessWritten : Prop :=
  ∀ (s : State) (c : Instr) (off : Fin 32), s.phase = .busy c →
    ∃ x n, land (.read (s.params.owcBase + off.val) 1) s =
        .next { s with replies := (off, x) :: s.replies, readDraws := n } ∧
      (off.val ∉ offsetsWritten c → x = s.peek (registerAt off)) ∧
      (off.val = 0x00 → x = s.cmd) ∧ (off.val = 0x01 → x = s.status)

/-- R35: the reserved offsets read 0x00 and ignore writes, in every state. -/
def Obligations.ReservedOffsetsInert : Prop :=
  ∀ (s : State) (off : Fin 32) (v : Byte),
    (0x05 ≤ off.val ∧ off.val ≤ 0x07) ∨ 0x18 ≤ off.val →
    s.readValue off = 0x00 ∧ land (.write (s.params.owcBase + off.val) 1 v) s = .next s

/-- R23, R28: where each field of STATUS stands, and the codes of SRES. -/
def Obligations.StatusLayout : Prop :=
  ∀ s : State,
    s.status.getLsbD 7 = s.err ∧
    s.status.extractLsb' 4 3 = (match s.sres with
      | .none => 0b000 | .deviceFound => 0b001 | .noDevices => 0b010
      | .exhausted => 0b011 | .crcFault => 0b100) ∧
    s.status.getLsbD 3 = s.ldf ∧ s.status.getLsbD 2 = s.short ∧
    s.status.getLsbD 1 = s.pres ∧ (s.status.getLsbD 0 = true ↔ ∃ c, s.phase = .busy c)

/-- R60, I3, R200: an access of another width than one byte, or outside the window, has no effect on the
block: the step only lets the sequencer go on to the event's time and takes the event off the schedule.
And no step stops. (That the block records no reply to such a read is log entry 6.) -/
def Obligations.OutsideAccessHasNoEffect : Prop :=
  (∀ (s : State) (p : Scheduled) (rest : List Scheduled) (a w : Nat), s.pending = p :: rest →
    p.event = .read a w ∨ (∃ v, p.event = .write a w v) →
    w ≠ 1 ∨ a < s.params.owcBase ∨ s.params.owcBase + 32 ≤ a →
    step s = .next { s.proceed with pending := rest, clock := max s.proceed.clock p.time }) ∧
  ∀ s : State, ∃ t, step s = .next t

/-- R29: how a step changes ERR, over every event, the block being out of reset when a write reaches it.
`u` is the block at the moment the event happens. (Writes while rst_n is low: WritesDuringResetIgnored.) -/
def Obligations.ErrChangesOnlyByWriteOrReset : Prop :=
  ∀ (s t : State), step s = .next t →
    match s.pending with
    | [] => t.err = s.err
    | p :: _ =>
      match p.event with
      | .rstN high =>
        (s.rstN = false ∨ high = false → t.err = false) ∧
        (s.rstN = true → high = true → t.err = s.err)
      | .read _ _ => t.err = s.err
      | .write a w v =>
        s.rstN = true →
          (w ≠ 1 ∨ a < s.params.owcBase ∨ s.params.owcBase + 32 ≤ a → t.err = s.err) ∧
          (w = 1 → ∀ (u : State) (off : Fin 32), u = s.proceed → a = s.params.owcBase + off.val →
            (off.val = 0x01 → t.err = (s.err && !v.getLsbD 7)) ∧
            (off.val = 0x00 → u.phase = .idle → (∀ i, decode v ≠ .ok i) → t.err = true) ∧
            (off.val = 0x00 → u.phase = .idle → (∃ i, decode v = .ok i) → t.err = s.err) ∧
            (u.busy = true → off.val = 0x00 ∨ off.val = 0x02 ∨ off.val = 0x03 ∨
              (0x08 ≤ off.val ∧ off.val ≤ 0x0F) → t.err = true) ∧
            (u.phase = .idle → off.val = 0x02 ∨ off.val = 0x03 ∨
              (0x08 ≤ off.val ∧ off.val ≤ 0x0F) → t.err = s.err) ∧
            ((0x04 ≤ off.val ∧ off.val ≤ 0x07) ∨ 0x10 ≤ off.val → t.err = s.err))

/-- The model's reading of R230 (log entry 7, DEDUCED): while rst_n is low a host write changes nothing
and issues no command. -/
def Obligations.WritesDuringResetIgnored : Prop :=
  ∀ (s : State) (a w : Nat) (v : Byte), s.rstN = false → land (.write a w v) s = .next s

/-- R12, R36, R37: what the output ports show: ow_oe and ow_o follow LSTATE, ow_pu is 1, and h_rdata is
the byte of the read just made. (ow_o has no level while the line is released: log entry 14.) -/
def Obligations.PortsFollowState : Prop :=
  ∀ s : State,
    (s.owOe = true ↔ s.line ≠ .released) ∧
    (s.owO = some false ↔ s.line = .driveLow) ∧ (s.owO = some true ↔ s.line = .driveHigh) ∧
    s.owPu = true ∧
    ∀ off : Fin 32, ∃ t, land (.read (s.params.owcBase + off.val) 1) s = .next t ∧
      t.hRdata = some (s.readValue off) ∧ t.owOe = s.owOe ∧ t.owO = s.owO

/-! ### Block reset (70_reset_and_hazards.md) -/

/-- R230, R231: a low level of rst_n, and a high one at the edge where it rises, put every register, the
phase and the line driver at its reset value; a high level with no edge changes nothing. (That a falling
rst_n writes LineRelease on the trace is log entry 7.) -/
def Obligations.BlockResetState : Prop :=
  (∀ s : State, s.rstN = true → land (.rstN true) s = .next s) ∧
  ∀ (s : State) (high : Bool), s.rstN = false ∨ high = false →
    land (.rstN high) s = .next { s with
      cmd := 0x00, pres := false, short := false, ldf := false, sres := .none, err := false
      data := 0x00, crc := 0x00, lastDisc := 0xFF
      addr := #v[0, 0, 0, 0, 0, 0, 0, 0], srom := #v[0, 0, 0, 0, 0, 0, 0, 0]
      phase := .idle, work := Work.clear, line := .released
      rstN := high
      log := if s.rstN then .release :: s.log else s.log }

/-- R232: a reset during a command abandons it: the trace goes no further than the actions the command
had completed when rst_n fell, but for the release of the line, and the registers hold their reset values.
Two things about the trace are the model's (log entry 7): the LineRelease at its end (DEDUCED), and that a
Wait which the reset cuts short is left off (DESIGN CHOICE, unsafe for that entry). -/
def Obligations.ResetAbandonsCommand : Prop :=
  ∀ (s : State) (p : Scheduled) (rest : List Scheduled),
    s.rstN = true → s.pending = p :: rest → p.event = .rstN false →
    ∃ t, step s = .next t ∧ t.trace = s.proceed.trace ++ [.release] ∧ t.phase = .idle ∧
      t.status = 0x00 ∧ t.cmd = 0x00 ∧ t.data = 0x00 ∧ t.crc = 0x00 ∧ t.lastDisc = 0xFF ∧
      t.addr = Bytes8.zero ∧ t.srom = Bytes8.zero ∧ t.line = .released ∧ t.rstN = false ∧
      t.clock = max s.proceed.clock p.time

/-- R22 to R34, R36, V6.13: what every read returns right after reset, and the line released. -/
def Obligations.ResetReadsAsListed : Prop :=
  (∀ off : Fin 32, State.reset.readValue off = if off.val = 0x04 then 0xFF else 0x00) ∧
  State.reset.phase = .idle ∧ State.reset.line = .released ∧ State.reset.owPu = true

/-! ### Bus commands (40_busline.md) -/

/-- R110, R120: RESET when the line never floats high: 250 microseconds, no reset pulse, SHORT. -/
def Obligations.ResetOnShortedBus : Prop :=
  ∀ s : State, s.pending = [] → s.floatsAt = none →
    exec .reset s = .next { s.consume 125 with
      cmd := 0x10, phase := .idle, work := Work.clear
      short := true, pres := false, line := .released
      log := shortedSlots.reverse ++ s.log
      clock := s.clock + 250 * s.params.ticksPerUs }

/-- R110, R120: RESET when the line first floats high at poll sample k (counted from 0): SHORT = 0,
PRES from the presence sample, and 2(k + 1) + 1055 microseconds. -/
def Obligations.ResetDetectsPresence : Prop :=
  ∀ (s : State) (k : Nat), s.pending = [] → s.floatsAt = some k →
    exec .reset s = .next { s.consume (k + 2) with
      cmd := 0x10, phase := .idle, work := Work.clear
      short := false, pres := !s.answer (k + 1), line := .released
      log := (resetSlots k (s.answer (k + 1))).reverse ++ s.log
      clock := s.clock + (2 * (k + 1) + 1055) * s.params.ticksPerUs }

/-- R111, R121: WBIT. The time is the sum of the waits (R100). -/
def Obligations.WbitWritesOneSlot : Prop :=
  ∀ (s : State) (b : Bool), s.pending = [] →
    exec (.wbit b) s = .next { s with
      cmd := if b then 0x21 else 0x20, phase := .idle, work := Work.clear
      line := .released
      log := (if b then [.low, .wait 10, .release, .wait 55]
        else [.low, .wait 65, .release, .wait 5]).reverse ++ s.log
      clock := s.clock + (if b then 65 else 70) * s.params.ticksPerUs }

/-- R112, R122: RBIT. The time is the sum of the waits (R100). -/
def Obligations.RbitReadsOneSlot : Prop :=
  ∀ s : State, s.pending = [] →
    exec .rbit s = .next { s.consume 1 with
      cmd := 0x30, phase := .idle, work := Work.clear
      data := if s.answer 0 then 0x01 else 0x00
      line := .released
      log := [.low, .wait 3, .release, .wait 10, .sample (s.answer 0), .wait 53].reverse ++ s.log
      clock := s.clock + 66 * s.params.ticksPerUs }

/-- R113, R123: WBYTE sends DATA least significant bit first, and with holdPower leaves the line driven
high. The time is R113's sentence "Duration: `520 + 5 × z` µs, where z is the number of 0 bits in v",
which the spec marks as derived from R111. -/
def Obligations.WbyteWritesData : Prop :=
  ∀ (s : State) (p : Bool), s.pending = [] →
    exec (.wbyte p) s = .next { s with
      cmd := if p then 0x41 else 0x40, phase := .idle, work := Work.clear
      line := if p then .driveHigh else .released
      log := (writeByteSlots s.data ++ if p then [LineAction.high] else []).reverse ++ s.log
      clock := s.clock + (520 + 5 * zeroBits s.data) * s.params.ticksPerUs }

/-- R114, R124: RBYTE puts eight samples into DATA, the first in bit 0, in 528 microseconds. -/
def Obligations.RbyteReadsData : Prop :=
  ∀ s : State, s.pending = [] →
    ∃ v : Byte, (∀ i, i < 8 → v.getLsbD i = s.answer i) ∧
      exec .rbyte s = .next { s.consume 8 with
        cmd := 0x50, phase := .idle, work := Work.clear
        data := v
        line := .released
        log := ((List.range 8).flatMap fun i => readSlot (s.answer i)).reverse ++ s.log
        clock := s.clock + 528 * s.params.ticksPerUs }

/-- R65, R125: SELECT sends MATCH_ROM_CMD and then ADDR[0] to ADDR[7]. -/
def Obligations.SelectWritesAddress : Prop :=
  ∀ s : State, s.pending = [] →
    exec .select s = .next { s with
      cmd := 0x60, phase := .idle, work := Work.clear
      line := .released
      log := ((s.params.matchRomCmd :: s.addr.toList).flatMap writeByteSlots).reverse ++ s.log
      clock := s.clock + (((s.params.matchRomCmd :: s.addr.toList).map
        fun v => 520 + 5 * zeroBits v).sum) * s.params.ticksPerUs }

/-- R36, R123, R126: where each command leaves the line. -/
def Obligations.LineStateAfterCommand : Prop :=
  ∀ (i : Instr) (s : State), s.pending = [] →
    ∃ t, exec i s = .next t ∧ t.line =
      match i with
      | .reset | .wbit _ | .rbit | .rbyte | .select => .released
      | .wbyte p => if p then .driveHigh else .released
      | .searchNext => if s.ldf then s.line else .released
      | .searchInit | .crcClear | .crcByte | .crcAddr _ => s.line

/-- R126: the first line action of a bus command, whatever the line state it starts from: LineLow, or
LineRelease for RESET and for the bus reset of SEARCH_NEXT. -/
def Obligations.FirstLineAction : Prop :=
  ∀ (i : Instr) (s : State), s.pending = [] →
    ∃ t, exec i s = .next t ∧
      match i with
      | .wbit _ | .rbit | .wbyte _ | .rbyte | .select =>
        ∃ later, t.trace = s.trace ++ .low :: later
      | .reset => ∃ later, t.trace = s.trace ++ .release :: later
      | .searchNext =>
        if s.ldf then t.trace = s.trace else ∃ later, t.trace = s.trace ++ .release :: later
      | .searchInit | .crcClear | .crcByte | .crcAddr _ => t.trace = s.trace

/-- R100: the time a bus command takes is the sum of the waits of its waveform, with no cycle added;
SEARCH_NEXT adds at most the one cycle of R243. -/
def Obligations.CommandTimeIsSumOfWaits : Prop :=
  ∀ (i : Instr) (s : State), s.pending = [] →
    ∃ t w extra, exec i s = .next t ∧ t.trace = s.trace ++ w ∧
      t.clock = s.clock + lineTime w * s.params.ticksPerUs + extra ∧
      match i with
      | .reset | .wbit _ | .rbit | .wbyte _ | .rbyte | .select => extra = 0
      | .searchNext => extra ≤ 1
      | .searchInit | .crcClear => extra = 1
      | .crcByte => extra = 8
      | .crcAddr n => extra = 8 * n

/-! ### CRC-8 (41_crc8.md) -/

/-- R150: CRC_CLEAR. -/
def Obligations.CrcClearSeedsAccumulator : Prop :=
  ∀ s : State, s.pending = [] →
    exec .crcClear s = .next { s with
      cmd := 0x90, phase := .idle, work := Work.clear, crc := 0x00, clock := s.clock + 1 }

/-- R151: CRC_BYTE, with its two corner cases (DATA = CRC = 0x00, and DATA = CRC, which gives 0x00 by
R144) and its worked example. -/
def Obligations.CrcByteFoldsData : Prop :=
  (∀ s : State, s.pending = [] →
    exec .crcByte s = .next { s with
      cmd := 0xA0, phase := .idle, work := Work.clear
      crc := crc8Step s.crc s.data, clock := s.clock + 8 }) ∧
  crc8Step 0x00 0x00 = 0x00 ∧ (∀ c : Byte, crc8Step c c = 0x00) ∧ crc8Step 0x00 0x01 = 0x5E ∧ crc8Step 0x5E 0x01 = 0x9A

/-- R152: CRC_ADDR n starts from the seed and covers the first n bytes of ADDR. -/
def Obligations.CrcAddrCoversFirstBytes : Prop :=
  ∀ (s : State) (n : Nat), s.pending = [] → 1 ≤ n → n ≤ 8 →
    exec (.crcAddr n) s = .next { s with
      cmd := 0xB0 + BitVec.ofNat 8 (n - 1), phase := .idle, work := Work.clear
      crc := crc8 s.addr.toList n, clock := s.clock + 8 * n }

/-- R141, R151, R78: the CRC8 pseudo-instruction leaves the CRC-8 of its bytes in CRC, idle, with ERR,
ADDR and the line trace as they were. -/
def Obligations.CrcStreamComputesCrc8 : Prop :=
  ∀ (s : State) (bytes : List Byte), s.pending = [] → s.phase = .idle → s.rstN = true →
    ∃ t, runLines (crc8Lines bytes) s = .next t ∧ t.crc = crc8 bytes bytes.length ∧
      t.phase = .idle ∧ t.err = s.err ∧ t.addr = s.addr ∧ t.trace = s.trace

/-- R142: linearity of the CRC step, "`crc8_step(c, d) = crc8_step(c ^ d, 0x00)` for all bytes c and d",
which the spec marks as derived from R140. -/
def Obligations.CrcStepLinear : Prop :=
  ∀ c d : Byte, crc8Step c d = crc8Step (c ^^^ d) 0x00 ∧ crc8Step c d = crc8Step 0x00 (c ^^^ d)

/-- R143: stepping with a zero byte is a bijection, and only 0 steps to 0: "`F(x) = crc8_step(x, 0x00)`
is a bijection on bytes", which the spec marks as derived from R140. -/
def Obligations.CrcZeroStepBijective : Prop :=
  Function.Bijective (fun x : Byte => crc8Step x 0x00) ∧
    ∀ x : Byte, crc8Step x 0x00 = 0x00 ↔ x = 0x00

/-- R144: appending the CRC of a byte string gives a string of CRC 0 ("for any byte string m,
`crc8(m || crc8(m)) = 0x00`", which the spec marks as derived from R142), and no other last byte does
(R142, R143). -/
def Obligations.CrcSelfCheck : Prop :=
  ∀ (m : List Byte) (v : Byte),
    crc8 (m ++ [v]) (m.length + 1) = 0x00 ↔ v = crc8 m m.length

/-- R145: an address is valid exactly when the CRC over bytes 0 to 6 equals byte 7, equivalently when
the CRC over its 8 bytes is 0x00 (R144), and "Two valid addresses never differ in exactly one bit", which
the spec marks as derived from R143. -/
def Obligations.ValidAddressesDifferInTwoBits : Prop :=
  (∀ a : Bytes8, (validAddress a = true ↔ crc8 a.toList 7 = a[7]) ∧
    (validAddress a = true ↔ crc8 a.toList 8 = 0x00)) ∧
  ∀ (a : Bytes8) (p : BitPosition), validAddress a = true →
    validAddress (setAddressBit a p (!addressBit a p)) = false

/-! ### The device search (42_search.md) -/

/-- R162, R165: SEARCH_INIT. -/
def Obligations.SearchInitReinitialises : Prop :=
  ∀ s : State, s.pending = [] →
    exec .searchInit s = .next { s with
      cmd := 0x70, phase := .idle, work := Work.clear
      lastDisc := 0xFF, ldf := false, srom := #v[0, 0, 0, 0, 0, 0, 0, 0], sres := .none
      clock := s.clock + 1 }

/-- R163: the direction chosen at a conflict. -/
def Obligations.ChooseFollowsLastDiscrepancy : Prop :=
  ∀ (s : State) (pos : BitPosition),
    ((pos.val : Int) < s.lastDisc.toInt → s.choose pos = addressBit s.srom pos) ∧
    ((pos.val : Int) = s.lastDisc.toInt → s.choose pos = true) ∧
    (s.lastDisc.toInt < (pos.val : Int) → s.choose pos = false)

/-- R170 step 1: after the last device, no line action and EXHAUSTED. -/
def Obligations.SearchNextExhausted : Prop :=
  ∀ s : State, s.pending = [] → s.ldf = true →
    exec .searchNext s = .next { s with
      cmd := 0x80, phase := .idle, work := Work.clear
      lastDisc := 0xFF, ldf := false, srom := Bytes8.zero, sres := .exhausted
      clock := s.clock + 1 }

/-- R170 step 2, R201 causes 1 and 2: no presence, or a line that never floats high. -/
def Obligations.SearchNextNoPresence : Prop :=
  ∀ s : State, s.pending = [] → s.ldf = false →
    (s.floatsAt = none →
      exec .searchNext s = .next { s.consume 125 with
        cmd := 0x80, phase := .idle, work := Work.clear
        short := true, pres := false, line := .released
        lastDisc := 0xFF, ldf := false, srom := Bytes8.zero, sres := .noDevices
        log := shortedSlots.reverse ++ s.log
        clock := s.clock + 250 * s.params.ticksPerUs }) ∧
    ∀ k, s.floatsAt = some k → s.answer (k + 1) = true →
      exec .searchNext s = .next { s.consume (k + 2) with
        cmd := 0x80, phase := .idle, work := Work.clear
        short := false, pres := false, line := .released
        lastDisc := 0xFF, ldf := false, srom := Bytes8.zero, sres := .noDevices
        log := (resetSlots k true).reverse ++ s.log
        clock := s.clock + (2 * (k + 1) + 1055) * s.params.ticksPerUs }

/-- R170 steps 2 to 7: with presence, the sequencer's actions do what the recursion `scan` over the 64
positions says, its waveform, its time, and its outcome included. -/
def Obligations.SearchNextRefinesScan : Prop :=
  ∀ (s : State) (k : Nat), s.pending = [] → s.ldf = false →
    s.floatsAt = some k → s.answer (k + 1) = false →
    let r := scan s.lastDisc.toInt s.answer (List.finRange 64) (k + 2) s.srom (-1)
    let w := resetSlots k false ++ writeByteSlots s.params.searchRomCmd ++ r.trace
    let t : State := { s.consume r.samples with
      cmd := 0x80, phase := .idle, work := Work.clear
      short := false, pres := true, line := .released
      log := w.reverse ++ s.log
      clock := s.clock + lineTime w * s.params.ticksPerUs + if r.aborted then 0 else 1 }
    exec .searchNext s = .next (
      if r.aborted then
        { t with lastDisc := 0xFF, ldf := false, srom := Bytes8.zero, sres := .noDevices }
      else if crc8 r.srom.toList 7 = r.srom[7] then
        { t with
          srom := r.srom, addr := r.srom, lastDisc := BitVec.ofInt 8 r.lz
          ldf := decide (r.lz = -1), sres := .deviceFound }
      else
        { t with lastDisc := 0xFF, ldf := false, srom := Bytes8.zero, sres := .crcFault })

/-- R160, R170, R171: SEARCH_NEXT always completes with exactly one of the four outcomes; every outcome
but DEVICE_FOUND leaves the SearchState at its initial values and ADDR as it was; DEVICE_FOUND leaves a
valid address in SROM and ADDR, and LDF set exactly when LASTDISC is "none". -/
def Obligations.SearchNextReportsOneOutcome : Prop :=
  ∀ s : State, s.pending = [] →
    ∃ t, exec .searchNext s = .next t ∧ t.phase = .idle ∧ t.sres ≠ .none ∧
      t.data = s.data ∧ t.crc = s.crc ∧ t.err = s.err ∧
      (t.sres ≠ .deviceFound →
        t.lastDisc = 0xFF ∧ t.ldf = false ∧ t.srom = Bytes8.zero ∧ t.addr = s.addr) ∧
      (t.sres = .deviceFound →
        t.addr = t.srom ∧ validAddress t.addr = true ∧ (t.ldf = true ↔ t.lastDisc = 0xFF) ∧
        t.pres = true ∧ t.short = false)

/-- R160: the transitions of the search state. SEARCH_NEXT is InProgress while it runs and leaves one of
the four outcome states; SEARCH_INIT and block reset enter Idle; no other command changes it. -/
def Obligations.SearchStateTransitions : Prop :=
  (∀ (i : Instr) (s : State), s.phase = .idle → s.pending = [] →
    ∃ t, exec i s = .next t ∧
      (i = .searchNext →
        t.searchState = .deviceFound ∨ t.searchState = .noDevices ∨
        t.searchState = .exhausted ∨ t.searchState = .crcFault) ∧
      (i = .searchInit → t.searchState = .idle) ∧
      (i ≠ .searchNext → i ≠ .searchInit → t.searchState = s.searchState)) ∧
  (∀ s t : State, exec .searchNext s = .next t → t.busy = true → t.searchState = .inProgress) ∧
  ∀ (s t : State) (high : Bool), s.rstN = false ∨ high = false →
    land (.rstN high) s = .next t → t.searchState = .idle

/-- R170, example: one valid device, a start from the initial SearchState (R164 assumed of the bus). -/
def Obligations.SearchFindsSingleDevice : Prop :=
  ∀ (s : State) (a : Bytes8) (k : Nat) (more : List Bool),
    s.pending = [] → s.ldf = false → s.lastDisc = 0xFF → validAddress a = true → k < 125 →
    s.answers = passAnswers [a] k a ++ more →
    ∃ t, exec .searchNext s = .next t ∧ t.sres = .deviceFound ∧ t.addr = a ∧ t.srom = a ∧
      t.lastDisc = 0xFF ∧ t.ldf = true ∧ t.answers = more

/-- R174: two valid devices whose first differing position is p, a having the 0 there: found in two
passes, LASTDISC p after the first and "none" after the second, then EXHAUSTED (R164 assumed). R174 marks
its sentences on the passes as derived from R163 and R164. -/
def Obligations.SearchFindsTwoDevices : Prop :=
  ∀ (s : State) (a b : Bytes8) (p : BitPosition) (k₁ k₂ : Nat) (more : List Bool),
    s.pending = [] → s.ldf = false → s.lastDisc = 0xFF →
    validAddress a = true → validAddress b = true →
    (∀ q : BitPosition, q < p → addressBit a q = addressBit b q) →
    addressBit a p = false → addressBit b p = true → k₁ < 125 → k₂ < 125 →
    s.answers = passAnswers [a, b] k₁ a ++ passAnswers [a, b] k₂ b ++ more →
    ∃ t u v, exec .searchNext s = .next t ∧ exec .searchNext t = .next u ∧
      exec .searchNext u = .next v ∧
      t.sres = .deviceFound ∧ t.addr = a ∧ t.lastDisc.toNat = p.val ∧ t.ldf = false ∧
      u.sres = .deviceFound ∧ u.addr = b ∧ u.lastDisc = 0xFF ∧ u.ldf = true ∧
      v.sres = .exhausted ∧ v.ldf = false ∧ v.trace = u.trace

/-- R173: a bus of N distinct valid devices that obey the pruning assumption is enumerated: after one
SEARCH_INIT, N passes find the N addresses in increasing order of their bit sequences, LDF is set after
the N-th and only then, and the next pass gives EXHAUSTED and leaves the initial SearchState, from which
a new enumeration starts. The increasing order is R173's sentence "The addresses come out in increasing
lexicographic order of their bit sequences", which the spec marks as derived from R163. -/
def Obligations.EnumerationFindsEveryDeviceOnce : Prop :=
  ∀ (devices : List Bytes8) (polls : Nat → Nat) (more : List Bool),
    devices ≠ [] → devices.Nodup → (∀ a ∈ devices, validAddress a = true) →
    (∀ n, polls n < 125) →
    ∃ order : List Bytes8, order.Perm devices ∧ order.Pairwise lexBefore ∧
      ∀ s : State, s.pending = [] →
        s.answers = (order.mapIdx fun n a => passAnswers devices (polls n) a).flatten ++ more →
        ∃ (t : Nat → State) (last : State),
          exec .searchInit s = .next (t 0) ∧
          (∀ (n : Nat) (h : n < order.length),
            exec .searchNext (t n) = .next (t (n + 1)) ∧
            (t (n + 1)).sres = .deviceFound ∧ (t (n + 1)).addr = order[n] ∧
            ((t (n + 1)).ldf = true ↔ n + 1 = order.length)) ∧
          exec .searchNext (t order.length) = .next last ∧ last.sres = .exhausted ∧
          last.ldf = false ∧ last.lastDisc = 0xFF ∧ last.srom = Bytes8.zero

/-- R175: on an empty bus every SEARCH_NEXT gives NO_DEVICES with PRES = 0, SHORT = 0 and LDF = 0. -/
def Obligations.EmptyBusGivesNoDevices : Prop :=
  ∀ (s : State) (k₁ k₂ : Nat) (more : List Bool),
    s.pending = [] → s.ldf = false → k₁ < 125 → k₂ < 125 →
    s.answers = (List.replicate k₁ false ++ [true, true]) ++
      (List.replicate k₂ false ++ [true, true]) ++ more →
    ∃ t u, exec .searchNext s = .next t ∧ exec .searchNext t = .next u ∧
      t.sres = .noDevices ∧ t.pres = false ∧ t.short = false ∧ t.ldf = false ∧
      u.sres = .noDevices ∧ u.pres = false ∧ u.short = false ∧ u.ldf = false

/-- R172: a line that floats high at the reset and then reads 0 in every slot: the all-zero address is
found, and the second pass ends in CRC_FAULT. -/
def Obligations.StuckLowBusFindsAllZero : Prop :=
  ∀ (s : State) (k₁ k₂ : Nat) (more : List Bool),
    s.pending = [] → s.ldf = false → s.lastDisc = 0xFF → k₁ < 125 → k₂ < 125 →
    s.answers = (List.replicate k₁ false ++ [true, false] ++ List.replicate 128 false) ++
      (List.replicate k₂ false ++ [true, false] ++ List.replicate 128 false) ++ more →
    ∃ t u, exec .searchNext s = .next t ∧ exec .searchNext t = .next u ∧
      t.sres = .deviceFound ∧ t.addr = Bytes8.zero ∧ t.lastDisc = 0x3F ∧ t.ldf = false ∧
      u.sres = .crcFault ∧ u.addr = Bytes8.zero ∧ u.srom = Bytes8.zero ∧ u.lastDisc = 0xFF ∧
      u.ldf = false

/-! ### The whole machine -/

/-- R25 to R34, R177: what each command may write, under every schedule, a command that is interrupted
before its end included. -/
def Obligations.CommandsWriteOnlyTheirRegisters : Prop :=
  ∀ (i : Instr) (s t : State), exec i s = .next t →
    t.cmd = encode i ∧ t.err = s.err ∧ t.params = s.params ∧ t.rstN = s.rstN ∧
    t.pending = s.pending ∧ t.replies = s.replies ∧ t.readDraws = s.readDraws ∧
    (i ≠ .rbit → i ≠ .rbyte → t.data = s.data) ∧
    (i ≠ .crcClear → i ≠ .crcByte → (∀ n, i ≠ .crcAddr n) → t.crc = s.crc) ∧
    (i ≠ .reset → i ≠ .searchNext → t.pres = s.pres ∧ t.short = s.short) ∧
    (i ≠ .searchNext → t.addr = s.addr) ∧
    (i ≠ .searchNext → i ≠ .searchInit →
      t.sres = s.sres ∧ t.ldf = s.ldf ∧ t.lastDisc = s.lastDisc ∧ t.srom = s.srom) ∧
    (i = .searchInit ∨ i = .crcClear ∨ i = .crcByte ∨ (∃ n, i = .crcAddr n) →
      t.line = s.line ∧ t.log = s.log ∧ t.answers = s.answers ∧ t.sampleDraws = s.sampleDraws) ∧
    ((∃ b, i = .wbit b) ∨ (∃ p, i = .wbyte p) ∨ i = .select →
      t.answers = s.answers ∧ t.sampleDraws = s.sampleDraws)

/-- R200: every accepted command ends, whatever the samples answer, in a bounded time. -/
def Obligations.EveryCommandEndsInBoundedTime : Prop :=
  ∀ (i : Instr) (s : State), s.pending = [] → i.wellFormed = true →
    ∃ t, exec i s = .next t ∧ t.phase = .idle ∧ s.clock ≤ t.clock ∧
      t.clock ≤ s.clock + 14793 * s.params.ticksPerUs + 64

/-- R20, R24, R56: an event due at or after a command's end leaves its result as it is. That an event due
at the very cycle of the end comes after it is the tie rule of log entry 5 (DESIGN CHOICE, unsafe at that
edge). -/
def Obligations.LaterEventsDoNotMatter : Prop :=
  ∀ (i : Instr) (s t : State), exec i { s with pending := [] } = .next t →
    (∀ p ∈ s.pending.head?, t.clock ≤ p.time) →
    exec i s = .next { t with pending := s.pending }

/-- R53, R59: a command stopped where an event is due and then run to its end leaves what it leaves when
no event comes. -/
def Obligations.PausedCommandResumes : Prop :=
  ∀ (i : Instr) (s t : State), exec i s = .next t →
    exec i { s with pending := [] } = .next { t.finish with pending := [] }

/-- R53, R54, R59: "no host write can change a running command's behaviour": a host access while busy
changes nothing of what the command leaves, ERR and the record of the reads apart. -/
def Obligations.HostAccessDoesNotDisturbCommand : Prop :=
  ∀ (s t : State) (e : HostEvent), s.busy = true → s.rstN = true → (∀ high, e ≠ .rstN high) →
    land e s = .next t →
    t.finish = { s.finish with err := t.err, replies := t.replies, readDraws := t.readDraws } ∧
    t.busy = true ∧ t.data = s.data ∧ t.crc = s.crc ∧ t.addr = s.addr ∧ t.cmd = s.cmd

/-- R5, R233: an idle block with nothing scheduled waits; a running command with nothing scheduled runs
to its end. -/
def Obligations.StepWithoutEvents : Prop :=
  ∀ s : State, s.pending = [] →
    (s.phase = .idle → step s = .next s) ∧
    ∀ c, s.phase = .busy c → ∃ t, step s = .next t ∧ t = s.finish ∧ t.phase = .idle

/-- R8, R56, R216: a step changes no parameter, never takes back a line action, and never turns back the
clock; it takes events in order, one at a time. -/
def Obligations.StepOnlyGoesForward : Prop :=
  ∀ s t : State, step s = .next t →
    t.params = s.params ∧ (∃ w, t.trace = s.trace ++ w) ∧ s.clock ≤ t.clock ∧
    t.pending = s.pending.tail ∧ (∃ r, t.replies = r ++ s.replies) ∧ ∃ n, t.answers = s.answers.drop n

/-- The invariant holds at reset. -/
def Obligations.ResetMeetsInv : Prop := State.reset.Inv

/-- R26, R32, R36, R39, R230, R237: every step keeps the invariant. -/
def Obligations.StepKeepsInv : Prop :=
  ∀ s t : State, s.Inv → step s = .next t → t.Inv
end

