-- ==== Sys2Proof/Laws/State.lean ====
section
/-! SUPPORT. One lemma per field per named update of State, true by rfl: no later proof unfolds a record
update. -/

namespace Sys2Proof.Machine

open Sys2Proof

variable (s : State)

@[simp] theorem State.record_cmd (a : LineAction) : (s.record a).cmd = s.cmd := rfl
@[simp] theorem State.record_pres (a : LineAction) : (s.record a).pres = s.pres := rfl
@[simp] theorem State.record_short (a : LineAction) : (s.record a).short = s.short := rfl
@[simp] theorem State.record_ldf (a : LineAction) : (s.record a).ldf = s.ldf := rfl
@[simp] theorem State.record_sres (a : LineAction) : (s.record a).sres = s.sres := rfl
@[simp] theorem State.record_err (a : LineAction) : (s.record a).err = s.err := rfl
@[simp] theorem State.record_data (a : LineAction) : (s.record a).data = s.data := rfl
@[simp] theorem State.record_crc (a : LineAction) : (s.record a).crc = s.crc := rfl
@[simp] theorem State.record_lastDisc (a : LineAction) : (s.record a).lastDisc = s.lastDisc := rfl
@[simp] theorem State.record_addr (a : LineAction) : (s.record a).addr = s.addr := rfl
@[simp] theorem State.record_srom (a : LineAction) : (s.record a).srom = s.srom := rfl
@[simp] theorem State.record_phase (a : LineAction) : (s.record a).phase = s.phase := rfl
@[simp] theorem State.record_work (a : LineAction) : (s.record a).work = s.work := rfl
@[simp] theorem State.record_line (a : LineAction) : (s.record a).line = s.line := rfl
@[simp] theorem State.record_rstN (a : LineAction) : (s.record a).rstN = s.rstN := rfl
@[simp] theorem State.record_params (a : LineAction) : (s.record a).params = s.params := rfl
@[simp] theorem State.record_pending (a : LineAction) : (s.record a).pending = s.pending := rfl
@[simp] theorem State.record_answers (a : LineAction) : (s.record a).answers = s.answers := rfl
@[simp] theorem State.record_sampleDraws (a : LineAction) : (s.record a).sampleDraws = s.sampleDraws := rfl
@[simp] theorem State.record_readDraws (a : LineAction) : (s.record a).readDraws = s.readDraws := rfl
@[simp] theorem State.record_log (a : LineAction) : (s.record a).log = a :: s.log := rfl
@[simp] theorem State.record_replies (a : LineAction) : (s.record a).replies = s.replies := rfl
@[simp] theorem State.record_clock (a : LineAction) : (s.record a).clock = s.clock := rfl

@[simp] theorem State.drive_cmd (l : LineState) (a : LineAction) : (s.drive l a).cmd = s.cmd := rfl
@[simp] theorem State.drive_pres (l : LineState) (a : LineAction) : (s.drive l a).pres = s.pres := rfl
@[simp] theorem State.drive_short (l : LineState) (a : LineAction) : (s.drive l a).short = s.short := rfl
@[simp] theorem State.drive_ldf (l : LineState) (a : LineAction) : (s.drive l a).ldf = s.ldf := rfl
@[simp] theorem State.drive_sres (l : LineState) (a : LineAction) : (s.drive l a).sres = s.sres := rfl
@[simp] theorem State.drive_err (l : LineState) (a : LineAction) : (s.drive l a).err = s.err := rfl
@[simp] theorem State.drive_data (l : LineState) (a : LineAction) : (s.drive l a).data = s.data := rfl
@[simp] theorem State.drive_crc (l : LineState) (a : LineAction) : (s.drive l a).crc = s.crc := rfl
@[simp] theorem State.drive_lastDisc (l : LineState) (a : LineAction) : (s.drive l a).lastDisc = s.lastDisc := rfl
@[simp] theorem State.drive_addr (l : LineState) (a : LineAction) : (s.drive l a).addr = s.addr := rfl
@[simp] theorem State.drive_srom (l : LineState) (a : LineAction) : (s.drive l a).srom = s.srom := rfl
@[simp] theorem State.drive_phase (l : LineState) (a : LineAction) : (s.drive l a).phase = s.phase := rfl
@[simp] theorem State.drive_work (l : LineState) (a : LineAction) : (s.drive l a).work = s.work := rfl
@[simp] theorem State.drive_line (l : LineState) (a : LineAction) : (s.drive l a).line = l := rfl
@[simp] theorem State.drive_rstN (l : LineState) (a : LineAction) : (s.drive l a).rstN = s.rstN := rfl
@[simp] theorem State.drive_params (l : LineState) (a : LineAction) : (s.drive l a).params = s.params := rfl
@[simp] theorem State.drive_pending (l : LineState) (a : LineAction) : (s.drive l a).pending = s.pending := rfl
@[simp] theorem State.drive_answers (l : LineState) (a : LineAction) : (s.drive l a).answers = s.answers := rfl
@[simp] theorem State.drive_sampleDraws (l : LineState) (a : LineAction) : (s.drive l a).sampleDraws = s.sampleDraws := rfl
@[simp] theorem State.drive_readDraws (l : LineState) (a : LineAction) : (s.drive l a).readDraws = s.readDraws := rfl
@[simp] theorem State.drive_log (l : LineState) (a : LineAction) : (s.drive l a).log = a :: s.log := rfl
@[simp] theorem State.drive_replies (l : LineState) (a : LineAction) : (s.drive l a).replies = s.replies := rfl
@[simp] theorem State.drive_clock (l : LineState) (a : LineAction) : (s.drive l a).clock = s.clock := rfl

@[simp] theorem State.takeSample_cmd : (s.takeSample).cmd = s.cmd := rfl
@[simp] theorem State.takeSample_pres : (s.takeSample).pres = s.pres := rfl
@[simp] theorem State.takeSample_short : (s.takeSample).short = s.short := rfl
@[simp] theorem State.takeSample_ldf : (s.takeSample).ldf = s.ldf := rfl
@[simp] theorem State.takeSample_sres : (s.takeSample).sres = s.sres := rfl
@[simp] theorem State.takeSample_err : (s.takeSample).err = s.err := rfl
@[simp] theorem State.takeSample_data : (s.takeSample).data = s.data := rfl
@[simp] theorem State.takeSample_crc : (s.takeSample).crc = s.crc := rfl
@[simp] theorem State.takeSample_lastDisc : (s.takeSample).lastDisc = s.lastDisc := rfl
@[simp] theorem State.takeSample_addr : (s.takeSample).addr = s.addr := rfl
@[simp] theorem State.takeSample_srom : (s.takeSample).srom = s.srom := rfl
@[simp] theorem State.takeSample_phase : (s.takeSample).phase = s.phase := rfl
@[simp] theorem State.takeSample_work : (s.takeSample).work = s.work := rfl
@[simp] theorem State.takeSample_line : (s.takeSample).line = s.line := rfl
@[simp] theorem State.takeSample_rstN : (s.takeSample).rstN = s.rstN := rfl
@[simp] theorem State.takeSample_params : (s.takeSample).params = s.params := rfl
@[simp] theorem State.takeSample_pending : (s.takeSample).pending = s.pending := rfl
@[simp] theorem State.takeSample_answers : (s.takeSample).answers = s.answers.tail := rfl
@[simp] theorem State.takeSample_sampleDraws : (s.takeSample).sampleDraws = if s.answers.isEmpty then s.sampleDraws + 1 else s.sampleDraws := rfl
@[simp] theorem State.takeSample_readDraws : (s.takeSample).readDraws = s.readDraws := rfl
@[simp] theorem State.takeSample_log : (s.takeSample).log = .sample s.nextAnswer :: s.log := rfl
@[simp] theorem State.takeSample_replies : (s.takeSample).replies = s.replies := rfl
@[simp] theorem State.takeSample_clock : (s.takeSample).clock = s.clock := rfl

@[simp] theorem State.reinit_cmd : (s.reinit).cmd = s.cmd := rfl
@[simp] theorem State.reinit_pres : (s.reinit).pres = s.pres := rfl
@[simp] theorem State.reinit_short : (s.reinit).short = s.short := rfl
@[simp] theorem State.reinit_ldf : (s.reinit).ldf = false := rfl
@[simp] theorem State.reinit_sres : (s.reinit).sres = s.sres := rfl
@[simp] theorem State.reinit_err : (s.reinit).err = s.err := rfl
@[simp] theorem State.reinit_data : (s.reinit).data = s.data := rfl
@[simp] theorem State.reinit_crc : (s.reinit).crc = s.crc := rfl
@[simp] theorem State.reinit_lastDisc : (s.reinit).lastDisc = 0xFF := rfl
@[simp] theorem State.reinit_addr : (s.reinit).addr = s.addr := rfl
@[simp] theorem State.reinit_srom : (s.reinit).srom = Bytes8.zero := rfl
@[simp] theorem State.reinit_phase : (s.reinit).phase = s.phase := rfl
@[simp] theorem State.reinit_work : (s.reinit).work = s.work := rfl
@[simp] theorem State.reinit_line : (s.reinit).line = s.line := rfl
@[simp] theorem State.reinit_rstN : (s.reinit).rstN = s.rstN := rfl
@[simp] theorem State.reinit_params : (s.reinit).params = s.params := rfl
@[simp] theorem State.reinit_pending : (s.reinit).pending = s.pending := rfl
@[simp] theorem State.reinit_answers : (s.reinit).answers = s.answers := rfl
@[simp] theorem State.reinit_sampleDraws : (s.reinit).sampleDraws = s.sampleDraws := rfl
@[simp] theorem State.reinit_readDraws : (s.reinit).readDraws = s.readDraws := rfl
@[simp] theorem State.reinit_log : (s.reinit).log = s.log := rfl
@[simp] theorem State.reinit_replies : (s.reinit).replies = s.replies := rfl
@[simp] theorem State.reinit_clock : (s.reinit).clock = s.clock := rfl

@[simp] theorem State.endSearch_cmd (r : SearchResult) : (s.endSearch r).cmd = s.cmd := rfl
@[simp] theorem State.endSearch_pres (r : SearchResult) : (s.endSearch r).pres = s.pres := rfl
@[simp] theorem State.endSearch_short (r : SearchResult) : (s.endSearch r).short = s.short := rfl
@[simp] theorem State.endSearch_ldf (r : SearchResult) : (s.endSearch r).ldf = false := rfl
@[simp] theorem State.endSearch_sres (r : SearchResult) : (s.endSearch r).sres = r := rfl
@[simp] theorem State.endSearch_err (r : SearchResult) : (s.endSearch r).err = s.err := rfl
@[simp] theorem State.endSearch_data (r : SearchResult) : (s.endSearch r).data = s.data := rfl
@[simp] theorem State.endSearch_crc (r : SearchResult) : (s.endSearch r).crc = s.crc := rfl
@[simp] theorem State.endSearch_lastDisc (r : SearchResult) : (s.endSearch r).lastDisc = 0xFF := rfl
@[simp] theorem State.endSearch_addr (r : SearchResult) : (s.endSearch r).addr = s.addr := rfl
@[simp] theorem State.endSearch_srom (r : SearchResult) : (s.endSearch r).srom = Bytes8.zero := rfl
@[simp] theorem State.endSearch_phase (r : SearchResult) : (s.endSearch r).phase = s.phase := rfl
@[simp] theorem State.endSearch_work (r : SearchResult) : (s.endSearch r).work = s.work := rfl
@[simp] theorem State.endSearch_line (r : SearchResult) : (s.endSearch r).line = s.line := rfl
@[simp] theorem State.endSearch_rstN (r : SearchResult) : (s.endSearch r).rstN = s.rstN := rfl
@[simp] theorem State.endSearch_params (r : SearchResult) : (s.endSearch r).params = s.params := rfl
@[simp] theorem State.endSearch_pending (r : SearchResult) : (s.endSearch r).pending = s.pending := rfl
@[simp] theorem State.endSearch_answers (r : SearchResult) : (s.endSearch r).answers = s.answers := rfl
@[simp] theorem State.endSearch_sampleDraws (r : SearchResult) : (s.endSearch r).sampleDraws = s.sampleDraws := rfl
@[simp] theorem State.endSearch_readDraws (r : SearchResult) : (s.endSearch r).readDraws = s.readDraws := rfl
@[simp] theorem State.endSearch_log (r : SearchResult) : (s.endSearch r).log = s.log := rfl
@[simp] theorem State.endSearch_replies (r : SearchResult) : (s.endSearch r).replies = s.replies := rfl
@[simp] theorem State.endSearch_clock (r : SearchResult) : (s.endSearch r).clock = s.clock := rfl

@[simp] theorem State.takeDirection_cmd : (s.takeDirection).cmd = s.cmd := rfl
@[simp] theorem State.takeDirection_pres : (s.takeDirection).pres = s.pres := rfl
@[simp] theorem State.takeDirection_short : (s.takeDirection).short = s.short := rfl
@[simp] theorem State.takeDirection_ldf : (s.takeDirection).ldf = s.ldf := rfl
@[simp] theorem State.takeDirection_sres : (s.takeDirection).sres = s.sres := rfl
@[simp] theorem State.takeDirection_err : (s.takeDirection).err = s.err := rfl
@[simp] theorem State.takeDirection_data : (s.takeDirection).data = s.data := rfl
@[simp] theorem State.takeDirection_crc : (s.takeDirection).crc = s.crc := rfl
@[simp] theorem State.takeDirection_lastDisc : (s.takeDirection).lastDisc = s.lastDisc := rfl
@[simp] theorem State.takeDirection_addr : (s.takeDirection).addr = s.addr := rfl
@[simp] theorem State.takeDirection_srom : (s.takeDirection).srom = setAddressBit s.srom s.work.pos s.direction := rfl
@[simp] theorem State.takeDirection_phase : (s.takeDirection).phase = s.phase := rfl
@[simp] theorem State.takeDirection_work : (s.takeDirection).work = { s.work with dir := s.direction, lz := s.nextLz } := rfl
@[simp] theorem State.takeDirection_line : (s.takeDirection).line = s.line := rfl
@[simp] theorem State.takeDirection_rstN : (s.takeDirection).rstN = s.rstN := rfl
@[simp] theorem State.takeDirection_params : (s.takeDirection).params = s.params := rfl
@[simp] theorem State.takeDirection_pending : (s.takeDirection).pending = s.pending := rfl
@[simp] theorem State.takeDirection_answers : (s.takeDirection).answers = s.answers := rfl
@[simp] theorem State.takeDirection_sampleDraws : (s.takeDirection).sampleDraws = s.sampleDraws := rfl
@[simp] theorem State.takeDirection_readDraws : (s.takeDirection).readDraws = s.readDraws := rfl
@[simp] theorem State.takeDirection_log : (s.takeDirection).log = s.log := rfl
@[simp] theorem State.takeDirection_replies : (s.takeDirection).replies = s.replies := rfl
@[simp] theorem State.takeDirection_clock : (s.takeDirection).clock = s.clock := rfl

@[simp] theorem State.bookkeep_cmd : (s.bookkeep).cmd = s.cmd := rfl
@[simp] theorem State.bookkeep_pres : (s.bookkeep).pres = s.pres := rfl
@[simp] theorem State.bookkeep_short : (s.bookkeep).short = s.short := rfl
@[simp] theorem State.bookkeep_ldf : (s.bookkeep).ldf = if s.work.lz = -1 then true else s.ldf := rfl
@[simp] theorem State.bookkeep_sres : (s.bookkeep).sres = s.sres := rfl
@[simp] theorem State.bookkeep_err : (s.bookkeep).err = s.err := rfl
@[simp] theorem State.bookkeep_data : (s.bookkeep).data = s.data := rfl
@[simp] theorem State.bookkeep_crc : (s.bookkeep).crc = s.crc := rfl
@[simp] theorem State.bookkeep_lastDisc : (s.bookkeep).lastDisc = BitVec.ofInt 8 s.work.lz := rfl
@[simp] theorem State.bookkeep_addr : (s.bookkeep).addr = s.addr := rfl
@[simp] theorem State.bookkeep_srom : (s.bookkeep).srom = s.srom := rfl
@[simp] theorem State.bookkeep_phase : (s.bookkeep).phase = s.phase := rfl
@[simp] theorem State.bookkeep_work : (s.bookkeep).work = s.work := rfl
@[simp] theorem State.bookkeep_line : (s.bookkeep).line = s.line := rfl
@[simp] theorem State.bookkeep_rstN : (s.bookkeep).rstN = s.rstN := rfl
@[simp] theorem State.bookkeep_params : (s.bookkeep).params = s.params := rfl
@[simp] theorem State.bookkeep_pending : (s.bookkeep).pending = s.pending := rfl
@[simp] theorem State.bookkeep_answers : (s.bookkeep).answers = s.answers := rfl
@[simp] theorem State.bookkeep_sampleDraws : (s.bookkeep).sampleDraws = s.sampleDraws := rfl
@[simp] theorem State.bookkeep_readDraws : (s.bookkeep).readDraws = s.readDraws := rfl
@[simp] theorem State.bookkeep_log : (s.bookkeep).log = s.log := rfl
@[simp] theorem State.bookkeep_replies : (s.bookkeep).replies = s.replies := rfl
@[simp] theorem State.bookkeep_clock : (s.bookkeep).clock = s.clock := rfl

@[simp] theorem State.complete_cmd : (s.complete).cmd = s.cmd := rfl
@[simp] theorem State.complete_pres : (s.complete).pres = s.pres := rfl
@[simp] theorem State.complete_short : (s.complete).short = s.short := rfl
@[simp] theorem State.complete_ldf : (s.complete).ldf = s.ldf := rfl
@[simp] theorem State.complete_sres : (s.complete).sres = s.sres := rfl
@[simp] theorem State.complete_err : (s.complete).err = s.err := rfl
@[simp] theorem State.complete_data : (s.complete).data = s.data := rfl
@[simp] theorem State.complete_crc : (s.complete).crc = s.crc := rfl
@[simp] theorem State.complete_lastDisc : (s.complete).lastDisc = s.lastDisc := rfl
@[simp] theorem State.complete_addr : (s.complete).addr = s.addr := rfl
@[simp] theorem State.complete_srom : (s.complete).srom = s.srom := rfl
@[simp] theorem State.complete_phase : (s.complete).phase = .idle := rfl
@[simp] theorem State.complete_work : (s.complete).work = Work.clear := rfl
@[simp] theorem State.complete_line : (s.complete).line = s.line := rfl
@[simp] theorem State.complete_rstN : (s.complete).rstN = s.rstN := rfl
@[simp] theorem State.complete_params : (s.complete).params = s.params := rfl
@[simp] theorem State.complete_pending : (s.complete).pending = s.pending := rfl
@[simp] theorem State.complete_answers : (s.complete).answers = s.answers := rfl
@[simp] theorem State.complete_sampleDraws : (s.complete).sampleDraws = s.sampleDraws := rfl
@[simp] theorem State.complete_readDraws : (s.complete).readDraws = s.readDraws := rfl
@[simp] theorem State.complete_log : (s.complete).log = s.log := rfl
@[simp] theorem State.complete_replies : (s.complete).replies = s.replies := rfl
@[simp] theorem State.complete_clock : (s.complete).clock = s.clock := rfl

@[simp] theorem State.spend_cmd (c : Nat) : (s.spend c).cmd = s.cmd := rfl
@[simp] theorem State.spend_pres (c : Nat) : (s.spend c).pres = s.pres := rfl
@[simp] theorem State.spend_short (c : Nat) : (s.spend c).short = s.short := rfl
@[simp] theorem State.spend_ldf (c : Nat) : (s.spend c).ldf = s.ldf := rfl
@[simp] theorem State.spend_sres (c : Nat) : (s.spend c).sres = s.sres := rfl
@[simp] theorem State.spend_err (c : Nat) : (s.spend c).err = s.err := rfl
@[simp] theorem State.spend_data (c : Nat) : (s.spend c).data = s.data := rfl
@[simp] theorem State.spend_crc (c : Nat) : (s.spend c).crc = s.crc := rfl
@[simp] theorem State.spend_lastDisc (c : Nat) : (s.spend c).lastDisc = s.lastDisc := rfl
@[simp] theorem State.spend_addr (c : Nat) : (s.spend c).addr = s.addr := rfl
@[simp] theorem State.spend_srom (c : Nat) : (s.spend c).srom = s.srom := rfl
@[simp] theorem State.spend_phase (c : Nat) : (s.spend c).phase = s.phase := rfl
@[simp] theorem State.spend_work (c : Nat) : (s.spend c).work = { s.work with elapsed := 0 } := rfl
@[simp] theorem State.spend_line (c : Nat) : (s.spend c).line = s.line := rfl
@[simp] theorem State.spend_rstN (c : Nat) : (s.spend c).rstN = s.rstN := rfl
@[simp] theorem State.spend_params (c : Nat) : (s.spend c).params = s.params := rfl
@[simp] theorem State.spend_pending (c : Nat) : (s.spend c).pending = s.pending := rfl
@[simp] theorem State.spend_answers (c : Nat) : (s.spend c).answers = s.answers := rfl
@[simp] theorem State.spend_sampleDraws (c : Nat) : (s.spend c).sampleDraws = s.sampleDraws := rfl
@[simp] theorem State.spend_readDraws (c : Nat) : (s.spend c).readDraws = s.readDraws := rfl
@[simp] theorem State.spend_log (c : Nat) : (s.spend c).log = s.log := rfl
@[simp] theorem State.spend_replies (c : Nat) : (s.spend c).replies = s.replies := rfl
@[simp] theorem State.spend_clock (c : Nat) : (s.spend c).clock = s.clock + c := rfl

@[simp] theorem State.pause_cmd (ops : List MicroOp) (g : Nat) : (s.pause ops g).cmd = s.cmd := rfl
@[simp] theorem State.pause_pres (ops : List MicroOp) (g : Nat) : (s.pause ops g).pres = s.pres := rfl
@[simp] theorem State.pause_short (ops : List MicroOp) (g : Nat) : (s.pause ops g).short = s.short := rfl
@[simp] theorem State.pause_ldf (ops : List MicroOp) (g : Nat) : (s.pause ops g).ldf = s.ldf := rfl
@[simp] theorem State.pause_sres (ops : List MicroOp) (g : Nat) : (s.pause ops g).sres = s.sres := rfl
@[simp] theorem State.pause_err (ops : List MicroOp) (g : Nat) : (s.pause ops g).err = s.err := rfl
@[simp] theorem State.pause_data (ops : List MicroOp) (g : Nat) : (s.pause ops g).data = s.data := rfl
@[simp] theorem State.pause_crc (ops : List MicroOp) (g : Nat) : (s.pause ops g).crc = s.crc := rfl
@[simp] theorem State.pause_lastDisc (ops : List MicroOp) (g : Nat) : (s.pause ops g).lastDisc = s.lastDisc := rfl
@[simp] theorem State.pause_addr (ops : List MicroOp) (g : Nat) : (s.pause ops g).addr = s.addr := rfl
@[simp] theorem State.pause_srom (ops : List MicroOp) (g : Nat) : (s.pause ops g).srom = s.srom := rfl
@[simp] theorem State.pause_phase (ops : List MicroOp) (g : Nat) : (s.pause ops g).phase = s.phase := rfl
@[simp] theorem State.pause_work (ops : List MicroOp) (g : Nat) : (s.pause ops g).work = { s.work with rest := ops, elapsed := s.work.elapsed + g } := rfl
@[simp] theorem State.pause_line (ops : List MicroOp) (g : Nat) : (s.pause ops g).line = s.line := rfl
@[simp] theorem State.pause_rstN (ops : List MicroOp) (g : Nat) : (s.pause ops g).rstN = s.rstN := rfl
@[simp] theorem State.pause_params (ops : List MicroOp) (g : Nat) : (s.pause ops g).params = s.params := rfl
@[simp] theorem State.pause_pending (ops : List MicroOp) (g : Nat) : (s.pause ops g).pending = s.pending := rfl
@[simp] theorem State.pause_answers (ops : List MicroOp) (g : Nat) : (s.pause ops g).answers = s.answers := rfl
@[simp] theorem State.pause_sampleDraws (ops : List MicroOp) (g : Nat) : (s.pause ops g).sampleDraws = s.sampleDraws := rfl
@[simp] theorem State.pause_readDraws (ops : List MicroOp) (g : Nat) : (s.pause ops g).readDraws = s.readDraws := rfl
@[simp] theorem State.pause_log (ops : List MicroOp) (g : Nat) : (s.pause ops g).log = s.log := rfl
@[simp] theorem State.pause_replies (ops : List MicroOp) (g : Nat) : (s.pause ops g).replies = s.replies := rfl
@[simp] theorem State.pause_clock (ops : List MicroOp) (g : Nat) : (s.pause ops g).clock = s.clock + g := rfl

@[simp] theorem State.accept_cmd (c : Instr) : (s.accept c).cmd = encode c := rfl
@[simp] theorem State.accept_pres (c : Instr) : (s.accept c).pres = s.pres := rfl
@[simp] theorem State.accept_short (c : Instr) : (s.accept c).short = s.short := rfl
@[simp] theorem State.accept_ldf (c : Instr) : (s.accept c).ldf = s.ldf := rfl
@[simp] theorem State.accept_sres (c : Instr) : (s.accept c).sres = s.sres := rfl
@[simp] theorem State.accept_err (c : Instr) : (s.accept c).err = s.err := rfl
@[simp] theorem State.accept_data (c : Instr) : (s.accept c).data = s.data := rfl
@[simp] theorem State.accept_crc (c : Instr) : (s.accept c).crc = s.crc := rfl
@[simp] theorem State.accept_lastDisc (c : Instr) : (s.accept c).lastDisc = s.lastDisc := rfl
@[simp] theorem State.accept_addr (c : Instr) : (s.accept c).addr = s.addr := rfl
@[simp] theorem State.accept_srom (c : Instr) : (s.accept c).srom = s.srom := rfl
@[simp] theorem State.accept_phase (c : Instr) : (s.accept c).phase = .busy c := rfl
@[simp] theorem State.accept_work (c : Instr) : (s.accept c).work = { Work.clear with latch := s.data } := rfl
@[simp] theorem State.accept_line (c : Instr) : (s.accept c).line = s.line := rfl
@[simp] theorem State.accept_rstN (c : Instr) : (s.accept c).rstN = s.rstN := rfl
@[simp] theorem State.accept_params (c : Instr) : (s.accept c).params = s.params := rfl
@[simp] theorem State.accept_pending (c : Instr) : (s.accept c).pending = s.pending := rfl
@[simp] theorem State.accept_answers (c : Instr) : (s.accept c).answers = s.answers := rfl
@[simp] theorem State.accept_sampleDraws (c : Instr) : (s.accept c).sampleDraws = s.sampleDraws := rfl
@[simp] theorem State.accept_readDraws (c : Instr) : (s.accept c).readDraws = s.readDraws := rfl
@[simp] theorem State.accept_log (c : Instr) : (s.accept c).log = s.log := rfl
@[simp] theorem State.accept_replies (c : Instr) : (s.accept c).replies = s.replies := rfl
@[simp] theorem State.accept_clock (c : Instr) : (s.accept c).clock = s.clock := rfl

@[simp] theorem State.consume_cmd (n : Nat) : (s.consume n).cmd = s.cmd := rfl
@[simp] theorem State.consume_pres (n : Nat) : (s.consume n).pres = s.pres := rfl
@[simp] theorem State.consume_short (n : Nat) : (s.consume n).short = s.short := rfl
@[simp] theorem State.consume_ldf (n : Nat) : (s.consume n).ldf = s.ldf := rfl
@[simp] theorem State.consume_sres (n : Nat) : (s.consume n).sres = s.sres := rfl
@[simp] theorem State.consume_err (n : Nat) : (s.consume n).err = s.err := rfl
@[simp] theorem State.consume_data (n : Nat) : (s.consume n).data = s.data := rfl
@[simp] theorem State.consume_crc (n : Nat) : (s.consume n).crc = s.crc := rfl
@[simp] theorem State.consume_lastDisc (n : Nat) : (s.consume n).lastDisc = s.lastDisc := rfl
@[simp] theorem State.consume_addr (n : Nat) : (s.consume n).addr = s.addr := rfl
@[simp] theorem State.consume_srom (n : Nat) : (s.consume n).srom = s.srom := rfl
@[simp] theorem State.consume_phase (n : Nat) : (s.consume n).phase = s.phase := rfl
@[simp] theorem State.consume_work (n : Nat) : (s.consume n).work = s.work := rfl
@[simp] theorem State.consume_line (n : Nat) : (s.consume n).line = s.line := rfl
@[simp] theorem State.consume_rstN (n : Nat) : (s.consume n).rstN = s.rstN := rfl
@[simp] theorem State.consume_params (n : Nat) : (s.consume n).params = s.params := rfl
@[simp] theorem State.consume_pending (n : Nat) : (s.consume n).pending = s.pending := rfl
@[simp] theorem State.consume_answers (n : Nat) : (s.consume n).answers = s.answers.drop n := rfl
@[simp] theorem State.consume_sampleDraws (n : Nat) : (s.consume n).sampleDraws = s.sampleDraws + (n - s.answers.length) := rfl
@[simp] theorem State.consume_readDraws (n : Nat) : (s.consume n).readDraws = s.readDraws := rfl
@[simp] theorem State.consume_log (n : Nat) : (s.consume n).log = s.log := rfl
@[simp] theorem State.consume_replies (n : Nat) : (s.consume n).replies = s.replies := rfl
@[simp] theorem State.consume_clock (n : Nat) : (s.consume n).clock = s.clock := rfl

@[simp] theorem State.writeStatus_cmd (v : Byte) : (s.writeStatus v).cmd = s.cmd := rfl
@[simp] theorem State.writeStatus_pres (v : Byte) : (s.writeStatus v).pres = s.pres := rfl
@[simp] theorem State.writeStatus_short (v : Byte) : (s.writeStatus v).short = s.short := rfl
@[simp] theorem State.writeStatus_ldf (v : Byte) : (s.writeStatus v).ldf = s.ldf := rfl
@[simp] theorem State.writeStatus_sres (v : Byte) : (s.writeStatus v).sres = s.sres := rfl
@[simp] theorem State.writeStatus_err (v : Byte) : (s.writeStatus v).err = (s.err && !v.getLsbD 7) := rfl
@[simp] theorem State.writeStatus_data (v : Byte) : (s.writeStatus v).data = s.data := rfl
@[simp] theorem State.writeStatus_crc (v : Byte) : (s.writeStatus v).crc = s.crc := rfl
@[simp] theorem State.writeStatus_lastDisc (v : Byte) : (s.writeStatus v).lastDisc = s.lastDisc := rfl
@[simp] theorem State.writeStatus_addr (v : Byte) : (s.writeStatus v).addr = s.addr := rfl
@[simp] theorem State.writeStatus_srom (v : Byte) : (s.writeStatus v).srom = s.srom := rfl
@[simp] theorem State.writeStatus_phase (v : Byte) : (s.writeStatus v).phase = s.phase := rfl
@[simp] theorem State.writeStatus_work (v : Byte) : (s.writeStatus v).work = s.work := rfl
@[simp] theorem State.writeStatus_line (v : Byte) : (s.writeStatus v).line = s.line := rfl
@[simp] theorem State.writeStatus_rstN (v : Byte) : (s.writeStatus v).rstN = s.rstN := rfl
@[simp] theorem State.writeStatus_params (v : Byte) : (s.writeStatus v).params = s.params := rfl
@[simp] theorem State.writeStatus_pending (v : Byte) : (s.writeStatus v).pending = s.pending := rfl
@[simp] theorem State.writeStatus_answers (v : Byte) : (s.writeStatus v).answers = s.answers := rfl
@[simp] theorem State.writeStatus_sampleDraws (v : Byte) : (s.writeStatus v).sampleDraws = s.sampleDraws := rfl
@[simp] theorem State.writeStatus_readDraws (v : Byte) : (s.writeStatus v).readDraws = s.readDraws := rfl
@[simp] theorem State.writeStatus_log (v : Byte) : (s.writeStatus v).log = s.log := rfl
@[simp] theorem State.writeStatus_replies (v : Byte) : (s.writeStatus v).replies = s.replies := rfl
@[simp] theorem State.writeStatus_clock (v : Byte) : (s.writeStatus v).clock = s.clock := rfl

@[simp] theorem State.hostRead_cmd (off : Fin 32) : (s.hostRead off).cmd = s.cmd := rfl
@[simp] theorem State.hostRead_pres (off : Fin 32) : (s.hostRead off).pres = s.pres := rfl
@[simp] theorem State.hostRead_short (off : Fin 32) : (s.hostRead off).short = s.short := rfl
@[simp] theorem State.hostRead_ldf (off : Fin 32) : (s.hostRead off).ldf = s.ldf := rfl
@[simp] theorem State.hostRead_sres (off : Fin 32) : (s.hostRead off).sres = s.sres := rfl
@[simp] theorem State.hostRead_err (off : Fin 32) : (s.hostRead off).err = s.err := rfl
@[simp] theorem State.hostRead_data (off : Fin 32) : (s.hostRead off).data = s.data := rfl
@[simp] theorem State.hostRead_crc (off : Fin 32) : (s.hostRead off).crc = s.crc := rfl
@[simp] theorem State.hostRead_lastDisc (off : Fin 32) : (s.hostRead off).lastDisc = s.lastDisc := rfl
@[simp] theorem State.hostRead_addr (off : Fin 32) : (s.hostRead off).addr = s.addr := rfl
@[simp] theorem State.hostRead_srom (off : Fin 32) : (s.hostRead off).srom = s.srom := rfl
@[simp] theorem State.hostRead_phase (off : Fin 32) : (s.hostRead off).phase = s.phase := rfl
@[simp] theorem State.hostRead_work (off : Fin 32) : (s.hostRead off).work = s.work := rfl
@[simp] theorem State.hostRead_line (off : Fin 32) : (s.hostRead off).line = s.line := rfl
@[simp] theorem State.hostRead_rstN (off : Fin 32) : (s.hostRead off).rstN = s.rstN := rfl
@[simp] theorem State.hostRead_params (off : Fin 32) : (s.hostRead off).params = s.params := rfl
@[simp] theorem State.hostRead_pending (off : Fin 32) : (s.hostRead off).pending = s.pending := rfl
@[simp] theorem State.hostRead_answers (off : Fin 32) : (s.hostRead off).answers = s.answers := rfl
@[simp] theorem State.hostRead_sampleDraws (off : Fin 32) : (s.hostRead off).sampleDraws = s.sampleDraws := rfl
@[simp] theorem State.hostRead_readDraws (off : Fin 32) : (s.hostRead off).readDraws = if s.isDraw (registerAt off) then s.readDraws + 1 else s.readDraws := rfl
@[simp] theorem State.hostRead_log (off : Fin 32) : (s.hostRead off).log = s.log := rfl
@[simp] theorem State.hostRead_replies (off : Fin 32) : (s.hostRead off).replies = (off, s.readValue off) :: s.replies := rfl
@[simp] theorem State.hostRead_clock (off : Fin 32) : (s.hostRead off).clock = s.clock := rfl

@[simp] theorem State.resetBlock_cmd : s.resetBlock.cmd = 0x00 := rfl
@[simp] theorem State.resetBlock_pres : s.resetBlock.pres = false := rfl
@[simp] theorem State.resetBlock_short : s.resetBlock.short = false := rfl
@[simp] theorem State.resetBlock_ldf : s.resetBlock.ldf = false := rfl
@[simp] theorem State.resetBlock_sres : s.resetBlock.sres = .none := rfl
@[simp] theorem State.resetBlock_err : s.resetBlock.err = false := rfl
@[simp] theorem State.resetBlock_data : s.resetBlock.data = 0x00 := rfl
@[simp] theorem State.resetBlock_crc : s.resetBlock.crc = 0x00 := rfl
@[simp] theorem State.resetBlock_lastDisc : s.resetBlock.lastDisc = 0xFF := rfl
@[simp] theorem State.resetBlock_addr : s.resetBlock.addr = Bytes8.zero := rfl
@[simp] theorem State.resetBlock_srom : s.resetBlock.srom = Bytes8.zero := rfl
@[simp] theorem State.resetBlock_phase : s.resetBlock.phase = .idle := rfl
@[simp] theorem State.resetBlock_work : s.resetBlock.work = Work.clear := rfl
@[simp] theorem State.resetBlock_line : s.resetBlock.line = .released := rfl
@[simp] theorem State.resetBlock_rstN : s.resetBlock.rstN = s.rstN := rfl
@[simp] theorem State.resetBlock_params : s.resetBlock.params = s.params := rfl
@[simp] theorem State.resetBlock_pending : s.resetBlock.pending = s.pending := rfl
@[simp] theorem State.resetBlock_answers : s.resetBlock.answers = s.answers := rfl
@[simp] theorem State.resetBlock_sampleDraws : s.resetBlock.sampleDraws = s.sampleDraws := rfl
@[simp] theorem State.resetBlock_readDraws : s.resetBlock.readDraws = s.readDraws := rfl
@[simp] theorem State.resetBlock_log : s.resetBlock.log = s.log := rfl
@[simp] theorem State.resetBlock_replies : s.resetBlock.replies = s.replies := rfl
@[simp] theorem State.resetBlock_clock : s.resetBlock.clock = s.clock := rfl

end Sys2Proof.Machine
end

