-- ==== Sys2Proof/Laws/Ops.lean ====
section
/-! SUPPORT. What each shared operation can do, said once: the sequencer's actions, a run of them, the
samples, host accesses, and the bits of an address. -/

namespace Sys2Proof.Machine

open Sys2Proof

/-! ### Samples -/

@[simp] theorem State.answer_zero (s : State) : s.answer 0 = s.nextAnswer := by
  cases h : s.answers <;> simp [State.answer, State.nextAnswer, h]

theorem State.takeSample_eq_consume (s : State) :
    s.takeSample = { s.consume 1 with log := .sample (s.answer 0) :: s.log } := by
  cases h : s.answers <;> simp [State.takeSample, State.consume, State.nextAnswer, State.answer, h]

@[simp] theorem State.consume_zero (s : State) : s.consume 0 = s := by
  simp [State.consume]

/-- Answers after n samples are the answers from the n-th on. -/
theorem State.answer_consume (s : State) (n k : Nat) : (s.consume n).answer k = s.answer (n + k) := by
  simp only [State.answer, State.consume, List.getD_eq_getElem?_getD, List.getElem?_drop,
    List.length_drop]
  rw [show s.sampleDraws + (n - s.answers.length) + (k - (s.answers.length - n)) =
    s.sampleDraws + (n + k - s.answers.length) by omega]

theorem State.consume_consume (s : State) (m n : Nat) : (s.consume m).consume n = s.consume (m + n) := by
  simp only [State.consume, List.drop_drop, List.length_drop]
  rw [show s.sampleDraws + (m - s.answers.length) + (n - (s.answers.length - m)) =
    s.sampleDraws + (m + n - s.answers.length) by omega]

/-! ### Bits of an address -/

theorem getLsbD_setByteBit (v : Byte) (i j : Nat) (b : Bool) (hi : i < 8) :
    (setByteBit v i b).getLsbD j = if j = i then b else v.getLsbD j := by
  unfold setByteBit
  by_cases hj : j < 8
  · by_cases h : j = i
    · subst h; cases b <;> simp [hj]
    · cases b <;> simp [hj, h]
  · have h : j ≠ i := by omega
    rw [if_neg h, BitVec.getLsbD_of_ge _ _ (by omega), BitVec.getLsbD_of_ge _ _ (by omega)]

/-- Reading back the bit just written. -/
@[simp] theorem addressBit_setAddressBit_self (a : Bytes8) (p : BitPosition) (b : Bool) :
    addressBit (setAddressBit a p b) p = b := by
  simp [addressBit, setAddressBit, getLsbD_setByteBit _ _ _ _ (Nat.mod_lt p.val (by decide : 0 < 8))]

/-- A write of one bit leaves every other bit alone. -/
theorem addressBit_setAddressBit_of_ne (a : Bytes8) (p q : BitPosition) (b : Bool) (h : q ≠ p) :
    addressBit (setAddressBit a p b) q = addressBit a q := by
  simp only [addressBit, setAddressBit, Vector.getElem_set]
  split
  · rename_i e
    have hne : q.val % 8 ≠ p.val % 8 := fun h8 => h (Fin.ext (by omega))
    rw [getLsbD_setByteBit _ _ _ _ (Nat.mod_lt _ (by decide)), if_neg hne]
    simp only [e]
  · rfl

/-- Two addresses with the same bits are the same address. -/
theorem eq_of_addressBit_eq (a b : Bytes8) (h : ∀ p, addressBit a p = addressBit b p) : a = b := by
  apply Vector.ext
  intro k hk
  apply BitVec.eq_of_getLsbD_eq
  intro i hi
  have := h ⟨8 * k + i, by omega⟩
  have e1 : (8 * k + i) / 8 = k := by omega
  have e2 : (8 * k + i) % 8 = i := by omega
  simpa [addressBit, e1, e2] using this

/-! ### One action -/

/-- The state in which an action leaves the machine, whether or not it ends the command. -/
def Flow.state : Flow → State
  | .go s => s
  | .stop s => s

@[simp] theorem Flow.state_go (s : State) : (Flow.go s).state = s := rfl
@[simp] theorem Flow.state_stop (s : State) : (Flow.stop s).state = s := rfl

/-- What no action of the sequencer touches: CMD, the phase, ERR (R29), the ports' inputs, the
parameters, the record of reads and the clock. -/
structure SameOutside (s t : State) : Prop where
  cmd : t.cmd = s.cmd
  err : t.err = s.err
  rstN : t.rstN = s.rstN
  params : t.params = s.params
  pending : t.pending = s.pending
  readDraws : t.readDraws = s.readDraws
  replies : t.replies = s.replies

theorem SameOutside.refl (s : State) : SameOutside s s := ⟨rfl, rfl, rfl, rfl, rfl, rfl, rfl⟩

theorem SameOutside.trans {s t u : State} (h : SameOutside s t) (k : SameOutside t u) : SameOutside s u :=
  ⟨k.cmd.trans h.cmd, k.err.trans h.err, k.rstN.trans h.rstN, k.params.trans h.params,
    k.pending.trans h.pending, k.readDraws.trans h.readDraws, k.replies.trans h.replies⟩

theorem State.report_sameOutside (s : State) : SameOutside s s.report := by
  unfold State.report
  split <;> exact ⟨rfl, rfl, rfl, rfl, rfl, rfl, rfl⟩

theorem State.requireFloat_sameOutside (s : State) (f : Bool) : SameOutside s (s.requireFloat f).state := by
  unfold State.requireFloat
  split
  · exact ⟨rfl, rfl, rfl, rfl, rfl, rfl, rfl⟩
  · split <;> exact ⟨rfl, rfl, rfl, rfl, rfl, rfl, rfl⟩

/-- An action touches nothing outside the command's registers, the line and the samples. -/
theorem perform_sameOutside (op : MicroOp) (s : State) : SameOutside s (perform op s).state := by
  cases op <;> simp only [perform, Flow.state_go]
  case requireFloat f => exact s.requireFloat_sameOutside f
  case conclude =>
    exact (show SameOutside s s.bookkeep from ⟨rfl, rfl, rfl, rfl, rfl, rfl, rfl⟩).trans
      s.bookkeep.report_sameOutside
  case pollWait => split <;> exact ⟨rfl, rfl, rfl, rfl, rfl, rfl, rfl⟩
  case pollSample => unfold State.pollOnce; split <;> exact ⟨rfl, rfl, rfl, rfl, rfl, rfl, rfl⟩
  case requirePresence => split <;> exact ⟨rfl, rfl, rfl, rfl, rfl, rfl, rfl⟩
  case checkLastDevice => split <;> exact ⟨rfl, rfl, rfl, rfl, rfl, rfl, rfl⟩
  case chooseDirection => split <;> exact ⟨rfl, rfl, rfl, rfl, rfl, rfl, rfl⟩
  all_goals exact ⟨rfl, rfl, rfl, rfl, rfl, rfl, rfl⟩

/-! ### A run of actions -/

@[simp] theorem runSeq_nil (g : Option Nat) (s : State) : runSeq g [] s = s.complete := by
  cases g <;> rfl

/-- Without a budget, an action that goes on is performed and the run continues. -/
theorem runSeq_cons_go {op : MicroOp} {rest : List MicroOp} {s t : State}
    (h : perform op (s.spend (op.cycles s - s.work.elapsed)) = .go t) :
    runSeq none (op :: rest) s = runSeq none rest t := by
  rw [runSeq, h]

/-- Without a budget, an action that returns ends the command. -/
theorem runSeq_cons_stop {op : MicroOp} {rest : List MicroOp} {s t : State}
    (h : perform op (s.spend (op.cycles s - s.work.elapsed)) = .stop t) :
    runSeq none (op :: rest) s = t.complete := by
  rw [runSeq, h]

/-- What a run does with its first action: the budget ends inside it, or it is performed and the
command goes on or ends. -/
theorem runSeq_cons_cases (g : Option Nat) (op : MicroOp) (rest : List MicroOp) (s : State) :
    (∃ b, g = some b ∧ b < op.cycles s - s.work.elapsed ∧
      runSeq g (op :: rest) s = s.pause (op :: rest) b) ∨
    (∃ t g', perform op (s.spend (op.cycles s - s.work.elapsed)) = .go t ∧
      runSeq g (op :: rest) s = runSeq g' rest t) ∨
    (∃ t, perform op (s.spend (op.cycles s - s.work.elapsed)) = .stop t ∧
      runSeq g (op :: rest) s = t.complete) := by
  cases g with
  | none =>
    rw [runSeq]
    cases h : perform op (s.spend (op.cycles s - s.work.elapsed)) with
    | go t => exact .inr (.inl ⟨t, none, rfl, rfl⟩)
    | stop t => exact .inr (.inr ⟨t, rfl, rfl⟩)
  | some b =>
    rw [runSeq]
    by_cases hb : op.cycles s - s.work.elapsed ≤ b
    · rw [if_pos hb]
      cases h : perform op (s.spend (op.cycles s - s.work.elapsed)) with
      | go t => exact .inr (.inl ⟨t, _, rfl, rfl⟩)
      | stop t => exact .inr (.inr ⟨t, rfl, rfl⟩)
    · exact .inl ⟨b, rfl, by omega, by rw [if_neg hb]⟩

/-- A property that the passing of time, every action, a pause and the end of the command carry along
holds after any run. -/
theorem runSeq_induct {P : State → Prop}
    (spend : ∀ s c, P s → P (s.spend c)) (action : ∀ s op, P s → P (perform op s).state)
    (pause : ∀ s ops g, P s → P (s.pause ops g)) (complete : ∀ s, P s → P s.complete)
    (g : Option Nat) (ops : List MicroOp) (s : State) (h : P s) : P (runSeq g ops s) := by
  induction ops generalizing g s with
  | nil => rw [runSeq_nil]; exact complete s h
  | cons op rest ih =>
    have done := action _ op (spend s (op.cycles s - s.work.elapsed) h)
    rcases runSeq_cons_cases g op rest s with ⟨b, -, -, e⟩ | ⟨t, g', p, e⟩ | ⟨t, p, e⟩ <;> rw [e]
    · exact pause s _ _ h
    · rw [p] at done; exact ih g' t done
    · rw [p] at done; exact complete t done

/-- A run touches nothing outside the command's registers, the line, the samples and the clock. -/
theorem runSeq_sameOutside (g : Option Nat) (ops : List MicroOp) (s : State) :
    SameOutside s (runSeq g ops s) :=
  runSeq_induct (P := SameOutside s)
    (fun _ _ h => h.trans ⟨rfl, rfl, rfl, rfl, rfl, rfl, rfl⟩)
    (fun t op h => h.trans (perform_sameOutside op t))
    (fun _ _ _ h => h.trans ⟨rfl, rfl, rfl, rfl, rfl, rfl, rfl⟩)
    (fun _ h => h.trans ⟨rfl, rfl, rfl, rfl, rfl, rfl, rfl⟩)
    g ops s (.refl s)

theorem State.proceed_sameOutside (s : State) : SameOutside s s.proceed := by
  unfold State.proceed
  split
  · exact .refl s
  · exact runSeq_sameOutside _ _ _

@[simp] theorem State.proceed_of_idle {s : State} (h : s.phase = .idle) : s.proceed = s := by
  simp [State.proceed, h]

@[simp] theorem State.finish_of_idle {s : State} (h : s.phase = .idle) : s.finish = s := by
  simp [State.finish, h]

@[simp] theorem State.budget_of_no_events {s : State} (h : s.pending = []) : s.budget = none := by
  simp [State.budget, h]

/-- With nothing scheduled a command runs to its end. -/
theorem runCommand_of_no_events {s : State} (h : s.pending = []) (c : Instr) (ops : List MicroOp) :
    runCommand c ops s = runSeq none ops (s.accept c) := by
  simp [runCommand, h]

/-! ### Host accesses -/

theorem State.offsetOf_window (s : State) (off : Fin 32) :
    s.offsetOf (s.params.owcBase + off.val) = some off := by
  simp [State.offsetOf, off.isLt]

/-- The register at a window offset, by the ranges of R21. -/
theorem registerAt_cases (off : Fin 32) :
    (off.val = 0x00 ∧ registerAt off = .cmd) ∨ (off.val = 0x01 ∧ registerAt off = .status) ∨
    (off.val = 0x02 ∧ registerAt off = .data) ∨ (off.val = 0x03 ∧ registerAt off = .crc) ∨
    (off.val = 0x04 ∧ registerAt off = .lastDisc) ∨
    ((0x05 ≤ off.val ∧ off.val ≤ 0x07) ∧ registerAt off = .reserved) ∨
    (∃ k : Fin 8, off.val = 0x08 + k.val ∧ registerAt off = .addr k) ∨
    (∃ k : Fin 8, off.val = 0x10 + k.val ∧ registerAt off = .srom k) ∨
    (0x18 ≤ off.val ∧ registerAt off = .reserved) := by
  revert off; decide

/-- A host write that issues no command never starts one and touches no register but its own and ERR. -/
theorem State.hostWrite_frame (s : State) (off : Fin 32) (v : Byte) :
    (s.hostWrite off v).phase = s.phase ∧ (s.hostWrite off v).work = s.work ∧
    (s.hostWrite off v).line = s.line ∧ (s.hostWrite off v).log = s.log ∧
    (s.hostWrite off v).cmd = s.cmd ∧ (s.hostWrite off v).pres = s.pres ∧
    (s.hostWrite off v).short = s.short ∧ (s.hostWrite off v).ldf = s.ldf ∧
    (s.hostWrite off v).sres = s.sres ∧ (s.hostWrite off v).lastDisc = s.lastDisc ∧
    (s.hostWrite off v).srom = s.srom ∧ (s.hostWrite off v).clock = s.clock ∧
    (s.hostWrite off v).params = s.params ∧ (s.hostWrite off v).pending = s.pending ∧
    (s.hostWrite off v).rstN = s.rstN ∧ (s.hostWrite off v).answers = s.answers ∧
    (s.hostWrite off v).replies = s.replies := by
  unfold State.hostWrite
  split
  · split
    · cases registerAt off <;> simp [State.writeBusy]
    · cases registerAt off <;> simp [State.writeIdle]
  · simp

/-- An answer of `issued` comes from a legal byte written to CMD while idle and out of reset (R52). -/
theorem State.issued_eq_some {s : State} {off : Fin 32} {v : Byte} {c : Instr}
    (h : s.issued off v = some c) :
    s.rstN = true ∧ s.busy = false ∧ registerAt off = .cmd ∧ decode? v = some c := by
  unfold State.issued at h
  split at h
  · rename_i hb
    simp only [Bool.and_eq_true, Bool.not_eq_true'] at hb
    split at h <;> simp_all
  · cases h

/-- An access that selects a register is one byte wide and at that register's address; every other
access selects none (R50, R60). -/
theorem State.selected_eq_some_iff (s : State) (address width : Nat) (off : Fin 32) :
    s.selected address width = some off ↔ width = 1 ∧ address = s.params.owcBase + off.val := by
  have := off.isLt
  unfold State.selected State.offsetOf
  split <;> rename_i hw
  · split <;> rename_i ha
    · simp only [Option.some.injEq, Fin.ext_iff, hw, true_and]; omega
    · simp only [reduceCtorEq, false_iff]; omega
  · simp [hw]

@[simp] theorem State.selected_window (s : State) (off : Fin 32) :
    s.selected (s.params.owcBase + off.val) 1 = some off :=
  (s.selected_eq_some_iff _ _ _).2 ⟨rfl, rfl⟩

/-- What an event at the ports can do: a read or a write of the register it selects, nothing at all
outside the interface, or a level on rst_n. -/
theorem land_cases (e : HostEvent) (s : State) :
    (∃ off, land e s = .next (s.hostRead off)) ∨ (∃ off v, land e s = landWrite off v s) ∨
    land e s = .next s ∨ (∃ high, land e s = .next (s.setRstN high)) := by
  cases e with
  | read address width =>
    cases h : s.selected address width with
    | none => exact .inr (.inr (.inl (by simp [land, h])))
    | some off => exact .inl ⟨off, by simp [land, h]⟩
  | write address width v =>
    cases h : s.selected address width with
    | none => exact .inr (.inr (.inl (by simp [land, h])))
    | some off => exact .inr (.inl ⟨off, v, by simp [land, h]⟩)
  | rstN high => exact .inr (.inr (.inr ⟨high, rfl⟩))

/-! ### Block reset -/

/-- A level on rst_n is no edge and no low level, or it leaves the block in its reset state (R230). -/
theorem State.setRstN_cases (s : State) (high : Bool) :
    (s.rstN = true ∧ high = true ∧ s.setRstN high = s) ∨
    ((s.rstN = false ∨ high = false) ∧ s.setRstN high = { s.resetBlock with
      rstN := high, log := if s.rstN then .release :: s.log else s.log }) := by
  unfold State.setRstN
  cases s.rstN <;> cases high <;> simp

end Sys2Proof.Machine
end

