-- ==== Sys2Proof/Laws/PerInstr.lean ====
section
/-! SUPPORT. The per-command family OpField: the OP nibble of a command's CMD byte is the one its row of
R71 has. -/

namespace Sys2Proof.Laws.OpField

open Sys2Proof

/-- OP of each command, the first column of R71. -/
def opOf : Instr → BitVec 4
  | .reset => 0x1
  | .wbit _ => 0x2
  | .rbit => 0x3
  | .wbyte _ => 0x4
  | .rbyte => 0x5
  | .select => 0x6
  | .searchInit => 0x7
  | .searchNext => 0x8
  | .crcClear => 0x9
  | .crcByte => 0xA
  | .crcAddr _ => 0xB

/-- The OP field of a well-formed command's byte is its row's (R70, R71). -/
def Statement (i : Instr) : Prop := i.wellFormed = true → opField (encode i) = opOf i

theorem reset : Statement .reset := fun _ => by decide
theorem wbit (b : Bool) : Statement (.wbit b) := fun _ => by cases b <;> decide
theorem rbit : Statement .rbit := fun _ => by decide
theorem wbyte (p : Bool) : Statement (.wbyte p) := fun _ => by cases p <;> decide
theorem rbyte : Statement .rbyte := fun _ => by decide
theorem select : Statement .select := fun _ => by decide
theorem searchInit : Statement .searchInit := fun _ => by decide
theorem searchNext : Statement .searchNext := fun _ => by decide
theorem crcClear : Statement .crcClear := fun _ => by decide
theorem crcByte : Statement .crcByte := fun _ => by decide
theorem crcAddr (n : Nat) : Statement (.crcAddr n) := by
  intro h
  simp only [Instr.wellFormed, Bool.and_eq_true, decide_eq_true_eq] at h
  obtain ⟨h1, h8⟩ := h
  interval_cases n <;> decide

end Sys2Proof.Laws.OpField
end

