-- ==== Sys2Proof/Tests/Slice0.lean ====
section
/-! SUPPORT. The model's own tests. Expected values come from the spec: its encodings (R71) and the
vectors of 95_test_vectors.md, each named. The witness theorems show that the hypotheses of a statement
can be met together. -/

namespace Sys2Proof.Tests

open Sys2Proof Sys2Proof.Machine

/-! ### Decoding: words written out from R71, bit 7 first -/

theorem test_decode_reset : decode 0b00010000 = .ok .reset := by decide
theorem test_decode_wbit : decode 0b00100000 = .ok (.wbit false) ∧ decode 0b00100001 = .ok (.wbit true) := by decide
theorem test_decode_rbit : decode 0b00110000 = .ok .rbit := by decide
theorem test_decode_wbyte : decode 0b01000000 = .ok (.wbyte false) ∧ decode 0b01000001 = .ok (.wbyte true) := by decide
theorem test_decode_rbyte : decode 0b01010000 = .ok .rbyte := by decide
theorem test_decode_select : decode 0b01100000 = .ok .select := by decide
theorem test_decode_searchInit : decode 0b01110000 = .ok .searchInit := by decide
theorem test_decode_searchNext : decode 0b10000000 = .ok .searchNext := by decide
theorem test_decode_crcClear : decode 0b10010000 = .ok .crcClear := by decide
theorem test_decode_crcByte : decode 0b10100000 = .ok .crcByte := by decide
/-- V5: n = 1 is B0, n = 7 is B6, n = 8 is B7. -/
theorem test_decode_crcAddr :
    decode 0b10110000 = .ok (.crcAddr 1) ∧ decode 0b10110110 = .ok (.crcAddr 7) ∧
      decode 0b10110111 = .ok (.crcAddr 8) := by decide

/-- V5: illegal bytes. -/
theorem test_decode_illegal :
    ([0x00, 0x0F, 0x11, 0x22, 0x2F, 0x31, 0x42, 0x51, 0x61, 0x71, 0x81, 0x91, 0xA1, 0xB8, 0xBF, 0xC0,
      0xFF] : List Byte).all (fun v => (decode? v).isNone) = true := by decide

theorem test_decode_errors :
    decode 0xC3 = .error (.reservedOp 0xC) ∧ decode 0x22 = .error (.nonzeroMod 0x2 0x2) := by decide

theorem test_decodeTableWord : decodeTableWord 8 0xB6 = some (.crcAddr 7) ∧ decodeTableWord 8 0x22 = none := by decide

/-! ### Well-formedness -/

theorem test_illFormed_count_zero : (Instr.crcAddr 0).wellFormed = false := by decide
theorem test_illFormed_count_nine : (Instr.crcAddr 9).wellFormed = false := by decide
theorem test_wellFormed_count : (Instr.crcAddr 8).wellFormed = true := by decide

/-! ### Small states and outcomes -/

/-- The reset state with these answers of the bus to come. -/
def withAnswers (l : List Bool) : State := { State.reset with answers := l }

theorem withAnswers_answers (l : List Bool) : (withAnswers l).answers = l := rfl

/-- The state after an outcome, the reset state after a stop. -/
def after : Host.Outcome State Fault Refusal → State
  | .next s => s
  | .fault _ => State.reset
  | .refused _ => State.reset

/-- Address A of 95_test_vectors.md. -/
def addressA : Bytes8 := #v[0x28, 0xFF, 0x4C, 0x1D, 0x61, 0x16, 0x04, 0x0C]

/-- Address B of 95_test_vectors.md. -/
def addressB : Bytes8 := #v[0x28, 0x01, 0x00, 0x00, 0x00, 0x00, 0x00, 0x29]

/-- A block busy with RBYTE, two cycles into its first Wait(3), two accesses to come. -/
def busyState : State :=
  { State.reset with
    cmd := 0x50, phase := .busy .rbyte, line := .driveLow, log := [.low], clock := 2
    work := { Work.clear with
      rest := [.wait 3, .lineRelease, .wait 10, .sample (.value 0), .wait 53, .storeData], elapsed := 2 }
    pending := [⟨2, .write 0x02 1 0x34⟩, ⟨5, .read 0x01 1⟩]
    answers := [true] }

/-! ### Commands -/

/-- V4.1: one device, the line high at the first poll. -/
theorem test_reset_presence :
    (after (exec .reset (withAnswers [true, false]))).status = 0x02 ∧
      (after (exec .reset (withAnswers [true, false]))).trace =
        [.release, .wait 2, .sample true, .low, .wait 500, .release, .wait 65, .sample false, .wait 490] := by
  decide +kernel

/-- V4.3: a shorted bus. -/
theorem test_reset_shorted :
    (after (exec .reset (withAnswers (List.replicate 125 false)))).status = 0x04 ∧
      (after (exec .reset (withAnswers (List.replicate 125 false)))).clock = 250 := by decide +kernel

/-- V4.5. -/
theorem test_wbit : (after (exec (.wbit true) State.reset)).trace = [.low, .wait 10, .release, .wait 55] ∧
    (after (exec (.wbit false) State.reset)).trace = [.low, .wait 65, .release, .wait 5] := by decide +kernel

/-- V4.6: nothing drives the line. -/
theorem test_rbit : (after (exec .rbit (withAnswers [true]))).data = 0x01 ∧
    (after (exec .rbit (withAnswers [true]))).clock = 66 := by decide +kernel

/-- V4.7: DATA = F0 with holdPower, 540 microseconds and 33 entries. -/
theorem test_wbyte_hold :
    (after (exec (.wbyte true) { State.reset with data := 0xF0 })).line = .driveHigh ∧
      (after (exec (.wbyte true) { State.reset with data := 0xF0 })).clock = 540 ∧
      (after (exec (.wbyte true) { State.reset with data := 0xF0 })).log.length = 33 := by decide +kernel

/-- V4.8. -/
theorem test_rbyte :
    (after (exec .rbyte (withAnswers [false, false, false, false, true, false, true, false]))).data = 0x50 := by
  decide +kernel

/-- V4.9: 288 entries, 4890 microseconds. -/
theorem test_select :
    (after (exec .select { State.reset with addr := addressA })).log.length = 288 ∧
      (after (exec .select { State.reset with addr := addressA })).clock = 4890 := by decide +kernel

/-- V3.11. -/
theorem test_searchInit :
    (after (exec .searchInit { State.reset with lastDisc := 9, sres := .deviceFound, srom := addressB, pres := true })).status = 0x02 ∧
      (after (exec .searchInit { State.reset with lastDisc := 9, srom := addressB })).lastDisc = 0xFF := by decide +kernel

/-- V3.8: the anomaly bus, 53 entries, 1729 microseconds. -/
theorem test_searchNext_bothOnes :
    (after (exec .searchNext (withAnswers [true, false, true, true]))).status = 0x22 ∧
      (after (exec .searchNext (withAnswers [true, false, true, true]))).log.length = 53 ∧
      (after (exec .searchNext (withAnswers [true, false, true, true]))).clock = 1729 := by decide +kernel

/-- V3.2, pass 1: devices A and B, B is found and LASTDISC is 9. -/
theorem test_searchNext_twoDevices :
    (after (exec .searchNext (withAnswers (passAnswers [addressA, addressB] 0 addressB)))).addr = addressB ∧
      (after (exec .searchNext (withAnswers (passAnswers [addressA, addressB] 0 addressB)))).lastDisc = 0x09 := by
  decide +kernel

/-- V2.1. -/
theorem test_crcClear : (after (exec .crcClear { State.reset with crc := 0xA2 })).crc = 0x00 := by decide

/-- V2.2, V2.3. -/
theorem test_crcByte : (after (exec .crcByte { State.reset with data := 0x01 })).crc = 0x5E ∧
    (after (exec .crcByte { State.reset with crc := 0x5E, data := 0x01 })).crc = 0x9A := by decide +kernel

/-- V2.5, V2.6. -/
theorem test_crcAddr :
    (after (exec (.crcAddr 7) { State.reset with addr := #v[0x02, 0x1C, 0xB8, 0x01, 0, 0, 0, 0xA2], crc := 0x55 })).crc = 0xA2 ∧
      (after (exec (.crcAddr 8) { State.reset with addr := #v[0x02, 0x1C, 0xB8, 0x01, 0, 0, 0, 0xA2] })).crc = 0x00 := by
  decide +kernel

/-- V1.4: ASCII "123456789", and T[FF] of V1.1. -/
theorem test_crc8 :
    crc8 [0x31, 0x32, 0x33, 0x34, 0x35, 0x36, 0x37, 0x38, 0x39] 9 = 0xA1 ∧ crc8Step 0xFF 0x00 = 0x35 := by
  decide +kernel

/-! ### The host interface -/

/-- V5: `CRC_ADDR 7` is byte B6; LD DATA and ISSUE as R77 and R78 have them. -/
theorem test_lines :
    doCommand (.crcAddr 7) = [.wr 0x00 0xB6, .wait] ∧ wbyteV 0x44 = [.wr 0x02 0x44, .wr 0x00 0x40, .wait] ∧
      commandText (.crcAddr 7) = "CRC_ADDR 7" := by decide +kernel

/-- P1: a command issued after reset is run by the next step. -/
theorem test_step_issues :
    (after (step (State.reset.withFetchWord 8 0xB6))).cmd = 0xB6 ∧
      (after (step (State.reset.withFetchWord 8 0xB6))).phase = .idle := by decide +kernel

/-- V6.1: an illegal byte sets ERR, and CMD still reads 0x00. -/
theorem test_step_illegal :
    (after (step (State.reset.withFetchWord 8 0xB8))).status = 0x80 ∧
      (after (step (State.reset.withFetchWord 8 0xB8))).cmd = 0x00 := by decide +kernel

/-- V6.5: busy with RBYTE, a write to DATA is refused and sets ERR. -/
theorem test_busy_write : (after (step busyState)).status = 0x81 ∧ (after (step busyState)).data = 0x00 := by
  decide +kernel

/-- V6.3, V6.4: STATUS is written through ERR alone. -/
theorem test_status_write :
    ({ State.reset with err := true, sres := .deviceFound }.writeStatus 0x80).status = 0x10 ∧
      ({ State.reset with err := true }.writeStatus 0x7F).status = 0x80 := by decide

/-- V6.13. -/
theorem test_reset_reads :
    (List.finRange 32).all (fun off => State.reset.readValue off == if off.val = 4 then 0xFF else 0x00) = true := by
  decide +kernel

/-! ### Witnesses: the hypotheses of the statements can be met together -/

theorem witness_DecodeOfEncode : (Instr.crcAddr 8).wellFormed = true := by decide

theorem witness_IllegalBytesRejectedByName :
    (0x0F : Byte).toNat < 0x10 ∧ 0xC0 ≤ (0xC0 : Byte).toNat ∧ 0x10 ≤ (0xBF : Byte).toNat ∧
      (0xBF : Byte).toNat < 0xC0 := by decide

/-- 0xBF is the encoding of no well-formed command. -/
theorem witness_IllegalBytesRejectedByName_unused :
    ∀ i : Instr, i.wellFormed = true → encode i ≠ 0xBF := by
  intro i h
  cases i with
  | crcAddr n =>
    simp only [Instr.wellFormed, Bool.and_eq_true, decide_eq_true_eq] at h
    obtain ⟨h1, h8⟩ := h
    interval_cases n <;> decide
  | wbit b => cases b <;> decide
  | wbyte p => cases p <;> decide
  | _ => decide

/-- A reset block to which the host writes v to CMD. -/
def issuing (v : Byte) : State := { State.reset with pending := [⟨3, .write 0 1 v⟩] }

theorem witness_StepRunsIssuedCommand :
    (issuing 0x50).phase = .idle ∧ (issuing 0x50).rstN = true ∧
      (issuing 0x50).pending = [⟨3, .write (issuing 0x50).params.owcBase 1 0x50⟩] ∧
      decode 0x50 = .ok .rbyte := by decide

theorem witness_FetchWordRunsDecodedCommand :
    State.reset.rstN = true ∧ decodeTableWord 8 0x80 = some .searchNext := by decide

/-- The statements about an illegal byte: 0xB8 decodes to no command. -/
theorem witness_IllegalCommandOnlySetsErr :
    (issuing 0xB8).phase = .idle ∧ (issuing 0xB8).rstN = true ∧
      (issuing 0xB8).pending = [⟨3, .write (issuing 0xB8).params.owcBase 1 0xB8⟩] ∧
      decode 0xB8 = .error (.nonzeroMod 0xB 0x8) := by decide

theorem witness_illegal_not_ok : ∀ i, decode 0xB8 ≠ .ok i := by
  intro i h
  rw [show decode 0xB8 = .error (.nonzeroMod 0xB 0x8) by decide] at h
  cases h

/-- IdleWriteEffects, each clause at a boundary of its range. -/
theorem witness_IdleWriteEffects :
    State.reset.phase = .idle ∧ State.reset.rstN = true ∧ decode 0xB7 = .ok (.crcAddr 8) ∧
      ((0x08 : Fin 32).val = 0x08 + (0 : Fin 8).val) ∧ ((0x0F : Fin 32).val = 0x08 + (7 : Fin 8).val) ∧
      0x04 ≤ (0x04 : Fin 32).val ∧ (0x07 : Fin 32).val ≤ 0x07 ∧ 0x10 ≤ (0x10 : Fin 32).val := by decide

theorem witness_BusyWriteRefused :
    busyState.phase = .busy .rbyte ∧ busyState.rstN = true ∧ 0x08 ≤ (0x08 : Fin 32).val ∧
      (0x0F : Fin 32).val ≤ 0x0F ∧ (0x01 : Fin 32).val = 0x01 ∧ 0x10 ≤ (0x1F : Fin 32).val := by decide

theorem witness_IdleReadReturnsRegister :
    State.reset.phase = .idle ∧ (0x17 : Fin 32).val = 0x10 + (7 : Fin 8).val ∧
      (0x05 : Fin 32).val ≤ 0x07 ∧ 0x18 ≤ (0x18 : Fin 32).val := by decide

theorem witness_BusyReadExactUnlessWritten :
    busyState.phase = .busy .rbyte ∧ (0x03 : Fin 32).val ∉ offsetsWritten .rbyte ∧
      (0x02 : Fin 32).val ∈ offsetsWritten .rbyte := by decide

theorem witness_ReservedOffsetsInert :
    0x05 ≤ (0x05 : Fin 32).val ∧ (0x07 : Fin 32).val ≤ 0x07 ∧ 0x18 ≤ (0x18 : Fin 32).val := by decide

/-- A reset block with one event to come, at cycle 3. -/
def awaiting (e : HostEvent) : State := { State.reset with pending := [⟨3, e⟩] }

/-- OutsideAccessHasNoEffect, each way to be outside. -/
theorem witness_OutsideAccessHasNoEffect :
    (awaiting (.read 32 1)).pending = [⟨3, .read 32 1⟩] ∧ (awaiting (.read 32 1)).params.owcBase + 32 ≤ 32 ∧
      (awaiting (.write 0 2 0x10)).pending = [⟨3, .write 0 2 0x10⟩] ∧ (2 : Nat) ≠ 1 := by decide

/-- The last address of the window answers, the next one does not (R60). -/
theorem test_window_edge :
    (after (land (.read 31 1) State.reset)).replies.length = 1 ∧
      after (land (.read 32 1) State.reset) = State.reset ∧
      after (land (.write 0 2 0x10) State.reset) = State.reset := by decide +kernel

/-- BlockResetState, SearchStateTransitions and WritesDuringResetIgnored: a block held in reset. -/
theorem witness_rstN_low :
    (State.reset.setRstN false).rstN = false ∧ (State.reset.setRstN false).log = [.release] := by decide

/-- R230: a high level on a high rst_n is no edge: a running command goes on. -/
theorem test_rstN_no_edge : after (land (.rstN true) busyState) = busyState := by decide +kernel

/-- Statements whose hypothesis is that a command or a step goes on. -/
theorem witness_runs :
    (∃ t, exec (.crcAddr 8) State.reset = .next t) ∧ (∃ t, step busyState = .next t) :=
  ⟨⟨_, rfl⟩, ⟨_, rfl⟩⟩

theorem witness_ErrChangesOnlyByWriteOrReset :
    busyState.rstN = true ∧ busyState.proceed.busy = true ∧
      busyState.pending.head? = some ⟨2, .write 0x02 1 0x34⟩ := by decide +kernel

/-- A running RBYTE during which rst_n falls. -/
def resetting : State := { busyState with pending := [⟨9, .rstN false⟩] }

theorem witness_ResetAbandonsCommand :
    resetting.rstN = true ∧ resetting.pending = [⟨9, .rstN false⟩] ∧
      resetting.proceed.trace = [.low, .wait 3, .release] := by decide +kernel

/-- The statements about a bus reset: never high, and high at the last poll. -/
theorem witness_floatsAt :
    (withAnswers (List.replicate 125 false)).floatsAt = none ∧
      (withAnswers (List.replicate 124 false ++ [true, false])).floatsAt = some 124 ∧
      (withAnswers (List.replicate 124 false ++ [true, false])).answer 125 = false ∧
      (withAnswers [true, true]).floatsAt = some 0 ∧ (withAnswers [true, true]).answer 1 = true ∧
      State.reset.pending = [] ∧ State.reset.ldf = false := by decide +kernel

theorem witness_SearchNextExhausted :
    ({ State.reset with ldf := true } : State).pending = [] ∧
      ({ State.reset with ldf := true } : State).ldf = true := by decide

theorem witness_CrcAddrCoversFirstBytes : State.reset.pending = [] ∧ (1 : Nat) ≤ 8 ∧ 8 ≤ 8 := by decide

theorem witness_ChooseFollowsLastDiscrepancy :
    ((62 : BitPosition).val : Int) < (0x3F : Byte).toInt ∧
      ((63 : BitPosition).val : Int) = (0x3F : Byte).toInt ∧
      (0xFF : Byte).toInt < ((0 : BitPosition).val : Int) := by decide

theorem witness_SearchFindsSingleDevice :
    (withAnswers (passAnswers [addressA] 124 addressA)).pending = [] ∧
      (withAnswers (passAnswers [addressA] 124 addressA)).lastDisc = 0xFF ∧
      validAddress addressA = true ∧
      (withAnswers (passAnswers [addressA] 124 addressA)).answers = passAnswers [addressA] 124 addressA ++ [] := by
  decide +kernel

theorem witness_SearchFindsTwoDevices :
    validAddress addressA = true ∧ validAddress addressB = true ∧
      (∀ q : BitPosition, q < 9 → addressBit addressB q = addressBit addressA q) ∧
      addressBit addressB 9 = false ∧ addressBit addressA 9 = true ∧
      (withAnswers (passAnswers [addressB, addressA] 0 addressB ++ passAnswers [addressB, addressA] 0 addressA)).answers
        = passAnswers [addressB, addressA] 0 addressB ++ passAnswers [addressB, addressA] 0 addressA ++ [] := by
  decide +kernel

theorem witness_EnumerationFindsEveryDeviceOnce :
    [addressA, addressB] ≠ [] ∧ [addressA, addressB].Nodup ∧
      validAddress addressA = true ∧ validAddress addressB = true ∧
      [addressB, addressA].Perm [addressA, addressB] :=
  ⟨by simp, by decide +kernel, by decide +kernel, by decide +kernel, List.Perm.swap _ _ _⟩

/-- Whatever the order, a state meets the hypothesis on the answers. -/
theorem witness_EnumerationFindsEveryDeviceOnce_state (devices order : List Bytes8) (polls : Nat → Nat)
    (more : List Bool) : ∃ s : State, s.pending = [] ∧
      s.answers = (order.mapIdx fun n a => passAnswers devices (polls n) a).flatten ++ more :=
  ⟨withAnswers _, rfl, withAnswers_answers _⟩

/-- The order of that enumeration is increasing. -/
theorem witness_lexBefore : lexBefore addressB addressA := ⟨9, by decide +kernel, by decide, by decide⟩

theorem witness_EmptyBusGivesNoDevices :
    (withAnswers [true, true, false, true, true]).answers =
      (List.replicate 0 false ++ [true, true]) ++ (List.replicate 1 false ++ [true, true]) ++ [] := by decide

theorem witness_StuckLowBusFindsAllZero :
    (withAnswers ((true :: List.replicate 129 false) ++ (true :: List.replicate 129 false))).answers =
      (List.replicate 0 false ++ [true, false] ++ List.replicate 128 false) ++
        (List.replicate 0 false ++ [true, false] ++ List.replicate 128 false) ++ [] := by decide +kernel

/-- LaterEventsDoNotMatter: an access one cycle after CRC_BYTE ends. -/
theorem witness_LaterEventsDoNotMatter :
    ∃ t, exec .crcByte { ({ State.reset with pending := [⟨9, .read 1 1⟩] } : State) with pending := [] } = .next t ∧
      ∀ p ∈ ({ State.reset with pending := [⟨9, .read 1 1⟩] } : State).pending.head?, t.clock ≤ p.time :=
  ⟨_, rfl, by decide⟩

/-- LaterEventsDoNotMatter at equality: an access at the very cycle at which CRC_BYTE ends. -/
theorem witness_LaterEventsDoNotMatter_tie :
    ∃ t, exec .crcByte { ({ State.reset with pending := [⟨8, .read 1 1⟩] } : State) with pending := [] } = .next t ∧
      t.clock = 8 ∧
      ∀ p ∈ ({ State.reset with pending := [⟨8, .read 1 1⟩] } : State).pending.head?, t.clock ≤ p.time :=
  ⟨_, rfl, rfl, by decide⟩

theorem witness_HostAccessDoesNotDisturbCommand :
    busyState.busy = true ∧ busyState.rstN = true ∧ ∃ t, land (.write 0x02 1 0x34) busyState = .next t :=
  ⟨rfl, rfl, ⟨_, rfl⟩⟩

theorem witness_StepWithoutEvents :
    ({ busyState with pending := [] } : State).pending = [] ∧
      ({ busyState with pending := [] } : State).phase = .busy .rbyte := by decide

/-- The statements whose hypotheses are an idle block out of reset with nothing scheduled, and a
well-formed command. -/
theorem witness_nothing_scheduled :
    State.reset.pending = [] ∧ State.reset.phase = .idle ∧ State.reset.rstN = true ∧
      (Instr.crcAddr 8).wellFormed = true := by decide

/-- A SEARCH_NEXT that an event meets one cycle after its acceptance goes on in a later step. -/
theorem witness_SearchStateTransitions_busy :
    ∃ t, exec .searchNext { State.reset with pending := [⟨1, .read 1 1⟩] } = .next t ∧
      t.phase = .busy .searchNext := ⟨_, rfl, by decide +kernel⟩

/-- The invariant holds of a running command, and it goes on. -/
theorem witness_StepKeepsInv : busyState.Inv ∧ ∃ t, step busyState = .next t :=
  ⟨⟨by decide, by decide, by decide, by decide, by decide, by decide, by decide +kernel, by decide,
    by decide⟩, ⟨_, rfl⟩⟩

end Sys2Proof.Tests
end

section
/-! PROOFS. The family 00_scope.md: what one step can do, that it only goes forward, and that it keeps the
machine's invariant. -/

namespace Sys2Proof.Machine

open Sys2Proof

/-! ### What one step can do -/

/-- The actions of each command, as its meaning lists them (40_busline.md to 42_search.md). -/
def actionsOf : Instr → List MicroOp
  | .reset => busReset false
  | .wbit b => writeBitWire (.imm b)
  | .rbit => readBitWire (.value 0) ++ [.storeData]
  | .wbyte p => writeByteWire .latch p
  | .rbyte => readByteWire ++ [.storeData]
  | .select =>
    writeByteWire .matchRomCmd false ++ addressBytes.flatMap (fun k => writeByteWire (.addr k) false)
  | .searchInit => [.searchInit]
  | .searchNext =>
    [.checkLastDevice] ++ busReset true ++ [.requirePresence] ++ writeByteWire .searchRomCmd false ++
      positions.flatMap searchPosition ++ [.conclude]
  | .crcClear => [.crcClear]
  | .crcByte => [.crcByte]
  | .crcAddr n => [.crcAddr n]

/-- Every meaning is a run of the command's own actions. -/
theorem exec_eq_runCommand (c : Instr) (s : State) :
    exec c s = .next (runCommand c (actionsOf c) s) := by
  cases c <;> rfl

/-- What an event at the ports does to the block u that it reaches. -/
inductive Landed (u : State) : State → Prop
  /-- an access outside the interface (R60) -/
  | nothing : Landed u u
  /-- a host read (R54) -/
  | read (off : Fin 32) : Landed u (u.hostRead off)
  /-- a host write that issues no command (R51, R53) -/
  | write (off : Fin 32) (v : Byte) : Landed u (u.hostWrite off v)
  /-- a host write that issues command c, the block being idle and out of reset (R52) -/
  | command (c : Instr) : u.rstN = true → u.phase = .idle → Landed u (runCommand c (actionsOf c) u)
  /-- a level on rst_n (R230) -/
  | reset (high : Bool) : Landed u (u.setRstN high)

theorem State.phase_eq_idle_of_not_busy {s : State} (h : s.busy = false) : s.phase = .idle := by
  unfold State.busy at h
  split at h
  · assumption
  · cases h

theorem State.busy_eq_true_iff (s : State) : s.busy = true ↔ s.phase ≠ .idle := by
  unfold State.busy
  split <;> simp [*]

theorem landWrite_landed {off : Fin 32} {v : Byte} {s t : State} (h : landWrite off v s = .next t) :
    Landed s t := by
  unfold landWrite at h
  split at h
  · next c hc =>
    obtain ⟨hr, hb, -, -⟩ := State.issued_eq_some hc
    rw [exec_eq_runCommand] at h
    cases h
    exact .command c hr (State.phase_eq_idle_of_not_busy hb)
  · cases h
    exact .write off v

theorem land_landed {e : HostEvent} {s t : State} (h : land e s = .next t) : Landed s t := by
  obtain ⟨off, e⟩ | ⟨off, v, e⟩ | e | ⟨high, e⟩ := land_cases e s <;> rw [e] at h
  · cases h; exact .read off
  · exact landWrite_landed h
  · cases h; exact .nothing
  · cases h; exact .reset high

/-- With nothing scheduled a step is the sequencer's own; otherwise the sequencer goes on until the first
event is due, and that event lands (R5, R56). -/
theorem step_cases {s t : State} (h : step s = .next t) :
    (s.pending = [] ∧ t = s.proceed) ∨
    ∃ p rest, s.pending = p :: rest ∧ Landed (s.proceed.arrive p rest) t := by
  unfold step stepMachine at h
  split at h
  · next hp => cases h; exact .inl ⟨hp, rfl⟩
  · next p rest hp => exact .inr ⟨p, rest, hp, land_landed h⟩

/-! ### What one action does to the line, the phase and the clock -/

/-- What every action leaves alone or changes by a rule of its own: the phase and the clock stay, and
LSTATE follows R12. -/
structure ActionFrame (op : MicroOp) (s t : State) : Prop where
  phase : t.phase = s.phase
  clock : t.clock = s.clock
  line : t.line = op.lineAfter s.line

theorem perform_frame (op : MicroOp) (s : State) : ActionFrame op s (perform op s).state := by
  cases op
  case pollWait | pollSample | requireFloat | requirePresence | checkLastDevice | chooseDirection |
      conclude =>
    simp only [perform, State.pollOnce, State.requireFloat, State.report]
    split_ifs <;> exact ⟨rfl, rfl, rfl⟩
  all_goals exact ⟨rfl, rfl, rfl⟩

/-- Only an action that may return ends the command. -/
theorem mayReturn_of_perform_eq_stop {op : MicroOp} {s t : State} (h : perform op s = .stop t) :
    op.mayReturn = true := by
  cases op
  case requireFloat | requirePresence | checkLastDevice | chooseDirection => rfl
  all_goals cases h

/-- A command that no event stops ends, and the block is idle (R52, R200). -/
theorem runSeq_none_phase (ops : List MicroOp) (s : State) : (runSeq none ops s).phase = .idle := by
  induction ops generalizing s with
  | nil => simp
  | cons op rest ih =>
    cases h : perform op (s.spend (op.cycles s - s.work.elapsed)) with
    | go t => rw [runSeq_cons_go h, ih]
    | stop t => rw [runSeq_cons_stop h, State.complete_phase]

/-! ### Going forward -/

/-- From s to t nothing is taken back: the parameters stay, the trace and the replies grow at their newest
end, the clock is not turned back, and answers are used from the front. -/
structure Forward (s t : State) : Prop where
  params : t.params = s.params
  log : ∃ w, t.log = w ++ s.log
  clock : s.clock ≤ t.clock
  replies : ∃ r, t.replies = r ++ s.replies
  answers : ∃ n, t.answers = s.answers.drop n

theorem Forward.refl (s : State) : Forward s s := ⟨rfl, ⟨[], rfl⟩, le_rfl, ⟨[], rfl⟩, ⟨0, rfl⟩⟩

theorem Forward.trans {s t u : State} (h : Forward s t) (k : Forward t u) : Forward s u := by
  obtain ⟨hp, ⟨w, hw⟩, hc, ⟨r, hr⟩, ⟨n, hn⟩⟩ := h
  obtain ⟨kp, ⟨w', kw⟩, kc, ⟨r', kr⟩, ⟨n', kn⟩⟩ := k
  exact ⟨kp.trans hp, ⟨w' ++ w, by simp [kw, hw]⟩, hc.trans kc, ⟨r' ++ r, by simp [kr, hr]⟩,
    ⟨n + n', by simp [kn, hn]⟩⟩

/-- What one action does to the line trace and the answers: entries are added in front of the log, newest
first, and answers are used from the front (R6, R7). -/
theorem perform_log_answers (op : MicroOp) (s : State) :
    (∃ w, (perform op s).state.log = w ++ s.log) ∧
      ∃ n, (perform op s).state.answers = s.answers.drop n := by
  cases op
  case lineLow | lineHigh | lineRelease | wait | slotLow | slotRest => exact ⟨⟨[_], rfl⟩, ⟨0, rfl⟩⟩
  case sample => exact ⟨⟨[_], rfl⟩, ⟨1, s.answers.drop_one.symm⟩⟩
  case pollWait =>
    simp only [perform]
    split
    · exact ⟨⟨[], rfl⟩, ⟨0, rfl⟩⟩
    · exact ⟨⟨[_], rfl⟩, ⟨0, rfl⟩⟩
  case pollSample =>
    simp only [perform, State.pollOnce]
    split
    · exact ⟨⟨[], rfl⟩, ⟨0, rfl⟩⟩
    · exact ⟨⟨[_], rfl⟩, ⟨1, s.answers.drop_one.symm⟩⟩
  case requireFloat | requirePresence | checkLastDevice | chooseDirection | conclude =>
    simp only [perform, State.requireFloat, State.report]
    split_ifs <;> exact ⟨⟨[], rfl⟩, ⟨0, rfl⟩⟩
  all_goals exact ⟨⟨[], rfl⟩, ⟨0, rfl⟩⟩

theorem perform_forward (op : MicroOp) (s : State) : Forward s (perform op s).state :=
  have outside := perform_sameOutside op s
  ⟨outside.params, (perform_log_answers op s).1, (perform_frame op s).clock.ge, ⟨[], outside.replies⟩,
    (perform_log_answers op s).2⟩

theorem runSeq_forward (g : Option Nat) (ops : List MicroOp) (s : State) : Forward s (runSeq g ops s) :=
  runSeq_induct (P := Forward s)
    (fun _ _ h => h.trans ⟨rfl, ⟨[], rfl⟩, by simp, ⟨[], rfl⟩, ⟨0, rfl⟩⟩)
    (fun t op h => h.trans (perform_forward op t))
    (fun _ _ _ h => h.trans ⟨rfl, ⟨[], rfl⟩, by simp, ⟨[], rfl⟩, ⟨0, rfl⟩⟩)
    (fun _ h => h.trans ⟨rfl, ⟨[], rfl⟩, le_rfl, ⟨[], rfl⟩, ⟨0, rfl⟩⟩)
    g ops s (.refl s)

theorem State.proceed_forward (s : State) : Forward s s.proceed := by
  unfold State.proceed
  split
  · exact .refl s
  · exact runSeq_forward _ _ _

theorem State.arrive_forward (s : State) (p : Scheduled) (rest : List Scheduled) :
    Forward s (s.arrive p rest) :=
  ⟨rfl, ⟨[], rfl⟩, le_max_left _ _, ⟨[], rfl⟩, ⟨0, rfl⟩⟩

theorem State.hostWrite_forward (s : State) (off : Fin 32) (v : Byte) : Forward s (s.hostWrite off v) := by
  obtain ⟨-, -, -, log, -, -, -, -, -, -, -, clock, params, -, -, answers, replies⟩ :=
    s.hostWrite_frame off v
  exact ⟨params, ⟨[], log⟩, clock.ge, ⟨[], replies⟩, ⟨0, answers⟩⟩

theorem State.setRstN_forward (s : State) (high : Bool) : Forward s (s.setRstN high) := by
  obtain ⟨-, -, e⟩ | ⟨-, e⟩ := s.setRstN_cases high <;> rw [e]
  · exact .refl s
  · refine ⟨rfl, ?_, le_rfl, ⟨[], rfl⟩, ⟨0, rfl⟩⟩
    cases s.rstN
    · exact ⟨[], rfl⟩
    · exact ⟨[_], rfl⟩

theorem Landed.forward {u t : State} (h : Landed u t) : Forward u t := by
  cases h with
  | nothing => exact .refl u
  | read off => exact ⟨rfl, ⟨[], rfl⟩, le_rfl, ⟨[_], rfl⟩, ⟨0, rfl⟩⟩
  | write off v => exact u.hostWrite_forward off v
  | command c _ _ =>
    have accepted : Forward u (u.accept c) := ⟨rfl, ⟨[], rfl⟩, le_rfl, ⟨[], rfl⟩, ⟨0, rfl⟩⟩
    exact accepted.trans (runSeq_forward _ _ _)
  | reset high => exact u.setRstN_forward high

/-- What lands leaves the events after it on the schedule. -/
theorem Landed.pending {u t : State} (h : Landed u t) : t.pending = u.pending := by
  cases h with
  | nothing | read => rfl
  | write off v =>
    obtain ⟨-, -, -, -, -, -, -, -, -, -, -, -, -, pending, -, -, -⟩ := u.hostWrite_frame off v
    exact pending
  | command c _ _ => exact (runSeq_sameOutside _ _ _).pending
  | reset high =>
    obtain ⟨-, -, e⟩ | ⟨-, e⟩ := u.setRstN_cases high
    · rw [e]
    · rw [e]; rfl

theorem step_forward {s t : State} (h : step s = .next t) :
    Forward s t ∧ t.pending = s.pending.tail := by
  obtain ⟨hp, rfl⟩ | ⟨p, rest, hp, landed⟩ := step_cases h
  · exact ⟨s.proceed_forward, by rw [s.proceed_sameOutside.pending, hp]; rfl⟩
  · exact ⟨(s.proceed_forward.trans (s.proceed.arrive_forward p rest)).trans landed.forward,
      by rw [landed.pending, hp]; rfl⟩

/-! ### What one action does to LASTDISC, `lz`, PRES and SHORT -/

@[simp] theorem Work.store_lz (w : Work) (t : SampleTarget) (level : Bool) :
    (w.store t level).lz = w.lz := by
  cases t <;> rfl

/-- `lz` changes only to the current position (R163). -/
theorem perform_lz (op : MicroOp) (s : State) :
    (perform op s).state.work.lz = s.work.lz ∨ (perform op s).state.work.lz = s.work.pos.val := by
  cases op
  case chooseDirection =>
    simp only [perform, State.takeDirection, State.nextLz]
    split_ifs
    · exact .inl rfl
    · exact .inr rfl
    · exact .inl rfl
  case sample => exact .inl (Work.store_lz _ _ _)
  case pollWait | pollSample | requireFloat | requirePresence | checkLastDevice | conclude =>
    simp only [perform, State.pollOnce, State.requireFloat, State.report]
    split_ifs <;> exact .inl rfl
  all_goals exact .inl rfl

/-- LASTDISC changes only to "none" by Reinit and to `lz` by step 5 of the search (R162, R170). -/
theorem perform_lastDisc (op : MicroOp) (s : State) :
    (perform op s).state.lastDisc = s.lastDisc ∨ (perform op s).state.lastDisc = 0xFF ∨
      (perform op s).state.lastDisc = BitVec.ofInt 8 s.work.lz := by
  cases op
  case searchInit => exact .inr (.inl rfl)
  case conclude =>
    simp only [perform, State.report]
    split
    · exact .inr (.inr rfl)
    · exact .inr (.inl rfl)
  case requireFloat =>
    simp only [perform, State.requireFloat]
    split_ifs
    · exact .inl rfl
    · exact .inr (.inl rfl)
    · exact .inl rfl
  case requirePresence =>
    simp only [perform]
    split
    · exact .inl rfl
    · exact .inr (.inl rfl)
  case checkLastDevice | chooseDirection =>
    simp only [perform]
    split
    · exact .inr (.inl rfl)
    · exact .inl rfl
  case pollWait | pollSample =>
    simp only [perform, State.pollOnce]
    split <;> exact .inl rfl
  all_goals exact .inl rfl

/-- The end of the float-high poll clears SHORT and goes on, or clears PRES and ends the command (R110). -/
theorem State.requireFloat_cases (s : State) (forSearch : Bool) :
    (∃ t, s.requireFloat forSearch = .go t ∧ t.short = false) ∨
    ∃ t, s.requireFloat forSearch = .stop t ∧ t.pres = false := by
  unfold State.requireFloat
  split_ifs
  · exact .inl ⟨_, rfl, rfl⟩
  · exact .inr ⟨_, rfl, rfl⟩
  · exact .inr ⟨_, rfl, rfl⟩

/-- PRES and SHORT change only at the end of a bus reset's poll and at its presence sample (R110). -/
theorem perform_pres_short (op : MicroOp) (s : State) (float : ∀ f, op ≠ .requireFloat f)
    (presence : op ≠ .recordPresence) :
    (perform op s).state.pres = s.pres ∧ (perform op s).state.short = s.short := by
  cases op
  case requireFloat f => exact absurd rfl (float f)
  case recordPresence => exact absurd rfl presence
  case pollWait | pollSample | requirePresence | checkLastDevice | chooseDirection | conclude =>
    simp only [perform, State.pollOnce, State.report]
    split <;> exact ⟨rfl, rfl⟩
  all_goals exact ⟨rfl, rfl⟩

/-! ### A running command keeps the invariant -/

/-- A legal `lz` is a legal LASTDISC: a position, or "none" (R32, R39). -/
theorem lastDisc_legal_of_lz {lz : Int} (legal : -1 ≤ lz ∧ lz ≤ 63) :
    BitVec.ofInt 8 lz = 0xFF ∨ (BitVec.ofInt 8 lz).toNat ≤ 63 := by
  rcases Int.lt_or_le lz 0 with negative | position
  · obtain rfl : lz = -1 := by omega
    exact .inl rfl
  · lift lz to Nat using position
    exact .inr (by rw [BitVec.ofInt_natCast, BitVec.toNat_ofNat]; omega)

theorem endsNotLow_nil {l : LineState} (h : l ≠ .driveLow) : endsNotLow l [] = true := by
  simpa [endsNotLow] using h

theorem endsNotLow_cons_iff (l : LineState) (op : MicroOp) (rest : List MicroOp) :
    endsNotLow l (op :: rest) = true ↔
      (op.mayReturn = true → l ≠ .driveLow) ∧ endsNotLow (op.lineAfter l) rest = true := by
  cases h : op.mayReturn <;> simp [endsNotLow, h]

/-- An action that may return leaves LSTATE alone. -/
theorem lineAfter_of_mayReturn {op : MicroOp} (h : op.mayReturn = true) (l : LineState) :
    op.lineAfter l = l := by
  cases op
  case lineLow | lineHigh | lineRelease => cases h
  all_goals rfl

theorem shortClearedFirst_cons_of_ne {op : MicroOp} (rest : List MicroOp)
    (float : ∀ f, op ≠ .requireFloat f) (presence : op ≠ .recordPresence) :
    shortClearedFirst (op :: rest) = shortClearedFirst rest := by
  cases op
  case requireFloat f => exact absurd rfl (float f)
  case recordPresence => exact absurd rfl presence
  all_goals rfl

/-- The invariant of a running command that has the actions ops still to perform. -/
structure State.Running (ops : List MicroOp) (s : State) : Prop where
  busy : s.phase ≠ .idle
  out_of_reset : s.rstN = true
  lastDisc_legal : s.lastDisc = 0xFF ∨ s.lastDisc.toNat ≤ 63
  presence_not_short : s.pres = true → s.short = false
  ticks_positive : 1 ≤ s.params.ticksPerUs
  lz_legal : -1 ≤ s.work.lz ∧ s.work.lz ≤ 63
  ends_not_low : endsNotLow s.line ops = true
  short_cleared : s.short = true → shortClearedFirst ops = true

/-- A command runs only out of reset: a held rst_n holds the phase at IDLE (R230). -/
theorem State.Inv.rstN_of_busy {s : State} (inv : s.Inv) (busy : s.phase ≠ .idle) : s.rstN = true := by
  by_contra low
  have held := congrArg State.phase (inv.held_in_reset (by simpa using low))
  exact busy held.symm

theorem State.Inv.running {s : State} (inv : s.Inv) (busy : s.phase ≠ .idle) :
    s.Running s.work.rest where
  busy := busy
  out_of_reset := inv.rstN_of_busy busy
  lastDisc_legal := inv.lastDisc_legal
  presence_not_short := inv.presence_not_short
  ticks_positive := inv.ticks_positive
  lz_legal := inv.lz_legal
  ends_not_low := inv.busy_ends_not_low (s.busy_eq_true_iff.2 busy)
  short_cleared := inv.busy_short_cleared (s.busy_eq_true_iff.2 busy)

namespace State.Running

variable {ops rest : List MicroOp} {op : MicroOp} {s t : State}

theorem spend (run : s.Running ops) (c : Nat) : (s.spend c).Running ops :=
  ⟨run.busy, run.out_of_reset, run.lastDisc_legal, run.presence_not_short, run.ticks_positive,
    run.lz_legal, run.ends_not_low, run.short_cleared⟩

/-- A command that an event meets keeps the machine's invariant. -/
theorem pause_inv (run : s.Running ops) (g : Nat) : (s.pause ops g).Inv where
  lastDisc_legal := run.lastDisc_legal
  presence_not_short := run.presence_not_short
  ticks_positive := run.ticks_positive
  lz_legal := run.lz_legal
  idle_clear idle := absurd idle run.busy
  idle_not_low idle := absurd idle run.busy
  busy_ends_not_low _ := run.ends_not_low
  busy_short_cleared _ := run.short_cleared
  held_in_reset low := absurd (run.out_of_reset.symm.trans low) (by decide)

/-- A command that has ended leaves the machine's invariant. -/
theorem complete_inv (run : s.Running []) : s.complete.Inv where
  lastDisc_legal := run.lastDisc_legal
  presence_not_short := run.presence_not_short
  ticks_positive := run.ticks_positive
  lz_legal := ⟨le_rfl, by simp [Work.clear]⟩
  idle_clear _ := rfl
  idle_not_low _ := by simpa [endsNotLow] using run.ends_not_low
  busy_ends_not_low busy := absurd rfl ((State.busy_eq_true_iff _).1 busy)
  busy_short_cleared busy := absurd rfl ((State.busy_eq_true_iff _).1 busy)
  held_in_reset low := absurd (run.out_of_reset.symm.trans low) (by decide)

/-- After an action PRES = 1 still implies SHORT = 0, and a command that goes on with SHORT = 1 still
clears it before it can set PRES (R26, R110). -/
theorem perform_presence (run : s.Running (op :: rest)) :
    ((perform op s).state.pres = true → (perform op s).state.short = false) ∧
    ∀ t, perform op s = .go t → t.short = true → shortClearedFirst rest = true := by
  by_cases float : ∃ f, op = .requireFloat f
  · obtain ⟨f, rfl⟩ := float
    obtain ⟨u, e, cleared⟩ | ⟨u, e, absent⟩ := s.requireFloat_cases f
    · exact ⟨by simp [perform, e, cleared], by simp [perform, e, cleared]⟩
    · exact ⟨by simp [perform, e, absent], by simp [perform, e]⟩
  by_cases presence : op = .recordPresence
  · subst presence
    have cleared : s.short = false := by
      by_contra short
      exact absurd (run.short_cleared (by simpa using short)) (by simp [shortClearedFirst])
    refine ⟨fun _ => cleared, ?_⟩
    rintro _ ⟨⟩ short
    exact absurd (cleared.symm.trans short) (by decide)
  · have other : ∀ f, op ≠ .requireFloat f := fun f h => float ⟨f, h⟩
    obtain ⟨pres, short⟩ := perform_pres_short op s other presence
    refine ⟨fun h => short.trans (run.presence_not_short (pres.symm.trans h)), fun t e h => ?_⟩
    rw [← shortClearedFirst_cons_of_ne rest other presence]
    rw [e] at short
    exact run.short_cleared (short.symm.trans h)

/-- After an action the command can run on with any actions ops that meet the two clauses about the
actions still to perform. -/
theorem perform_running (run : s.Running (op :: rest))
    (ends_not_low : endsNotLow (op.lineAfter s.line) ops = true)
    (short_cleared : (perform op s).state.short = true → shortClearedFirst ops = true) :
    (perform op s).state.Running ops where
  busy := (perform_frame op s).phase ▸ run.busy
  out_of_reset := (perform_sameOutside op s).rstN ▸ run.out_of_reset
  lastDisc_legal := by
    rcases perform_lastDisc op s with e | e | e <;> rw [e]
    · exact run.lastDisc_legal
    · exact .inl rfl
    · exact lastDisc_legal_of_lz run.lz_legal
  presence_not_short := run.perform_presence.1
  ticks_positive := (perform_sameOutside op s).params ▸ run.ticks_positive
  lz_legal := by
    rcases perform_lz op s with e | e <;> rw [e]
    · exact run.lz_legal
    · omega
  ends_not_low := (perform_frame op s).line ▸ ends_not_low
  short_cleared := short_cleared

/-- A command that goes on after an action runs on with the actions that are left. -/
theorem of_perform_go (run : s.Running (op :: rest)) (h : perform op s = .go t) : t.Running rest := by
  have after := run.perform_running ((endsNotLow_cons_iff _ _ _).1 run.ends_not_low).2
    (by rw [h]; exact run.perform_presence.2 t h)
  rwa [h] at after

/-- An action that returns leaves nothing to perform. -/
theorem of_perform_stop (run : s.Running (op :: rest)) (h : perform op s = .stop t) : t.Running [] := by
  have returns := mayReturn_of_perform_eq_stop h
  have up := ((endsNotLow_cons_iff _ _ _).1 run.ends_not_low).1 returns
  have after := run.perform_running (ops := [])
    (by rw [lineAfter_of_mayReturn returns]; exact endsNotLow_nil up) (fun _ => rfl)
  rwa [h] at after

/-- A running command, let go on to its end or to the next event, keeps the machine's invariant. -/
theorem runSeq_inv (run : s.Running ops) (g : Option Nat) : (runSeq g ops s).Inv := by
  induction ops generalizing g s with
  | nil => rw [runSeq_nil]; exact run.complete_inv
  | cons op rest ih =>
    obtain ⟨b, -, -, e⟩ | ⟨t, g', h, e⟩ | ⟨t, h, e⟩ := runSeq_cons_cases g op rest s <;> rw [e]
    · exact run.pause_inv b
    · exact ih ((run.spend _).of_perform_go h) g'
    · exact ((run.spend _).of_perform_stop h).complete_inv

end State.Running

theorem State.Inv.proceed {s : State} (inv : s.Inv) : s.proceed.Inv := by
  unfold State.proceed
  split
  · exact inv
  · next c h => exact (inv.running (by simp [h])).runSeq_inv _

/-! ### The actions of the commands -/

/-- From a line that is not low, these actions come back to one that is not low, and no `return` among
them leaves it low: whatever may follow them is as safe as they leave it. -/
def KeepsLineUp (ops : List MicroOp) : Prop :=
  ∀ rest, (∀ l, l ≠ .driveLow → endsNotLow l rest = true) →
    ∀ l, l ≠ .driveLow → endsNotLow l (ops ++ rest) = true

theorem KeepsLineUp.endsNotLow {ops : List MicroOp} (h : KeepsLineUp ops) {l : LineState}
    (up : l ≠ .driveLow) : endsNotLow l ops = true := by
  simpa using h [] (fun _ => endsNotLow_nil) l up

theorem KeepsLineUp.append {a b : List MicroOp} (ha : KeepsLineUp a) (hb : KeepsLineUp b) :
    KeepsLineUp (a ++ b) := fun _ safe => by
  rw [List.append_assoc]
  exact ha _ (hb _ safe)

theorem KeepsLineUp.flatten {opss : List (List MicroOp)} (h : ∀ ops ∈ opss, KeepsLineUp ops) :
    KeepsLineUp opss.flatten := by
  induction opss with
  | nil => exact fun _ safe => safe
  | cons ops opss ih =>
    rw [List.forall_mem_cons] at h
    exact h.1.append (ih h.2)

theorem KeepsLineUp.flatMap {α : Type} (xs : List α) {f : α → List MicroOp}
    (h : ∀ x, KeepsLineUp (f x)) : KeepsLineUp (xs.flatMap f) :=
  .flatten (by simp [h])

/-- An action after which the line is not low keeps it up. -/
theorem KeepsLineUp.single (op : MicroOp) (h : ∀ l, l ≠ .driveLow → op.lineAfter l ≠ .driveLow) :
    KeepsLineUp [op] := fun _ safe l up =>
  (endsNotLow_cons_iff _ _ _).2 ⟨fun _ => up, safe _ (h l up)⟩

/-- An action that leaves LSTATE alone keeps the line up. -/
theorem KeepsLineUp.still (op : MicroOp) (h : ∀ l, op.lineAfter l = l) : KeepsLineUp [op] :=
  .single op fun l up => (h l).symm ▸ up

theorem keepsLineUp_writeBitWire (b : BitSource) : KeepsLineUp (writeBitWire b) := fun rest safe _ _ => by
  simpa [writeBitWire, endsNotLow, MicroOp.mayReturn, MicroOp.lineAfter] using safe .released (by decide)

theorem keepsLineUp_readBitWire (t : SampleTarget) : KeepsLineUp (readBitWire t) := fun rest safe _ _ => by
  simpa [readBitWire, endsNotLow, MicroOp.mayReturn, MicroOp.lineAfter] using safe .released (by decide)

theorem keepsLineUp_pollIteration : KeepsLineUp pollIteration := fun rest safe l up => by
  simpa [pollIteration, endsNotLow, MicroOp.mayReturn, MicroOp.lineAfter] using safe l up

theorem keepsLineUp_busReset (forSearch : Bool) : KeepsLineUp (busReset forSearch) := by
  have poll : KeepsLineUp (List.replicate 125 pollIteration).flatten :=
    .flatten fun ops h => List.eq_of_mem_replicate h ▸ keepsLineUp_pollIteration
  have pulse : KeepsLineUp
      [.lineLow, .wait 500, .lineRelease, .wait 65, .sample .presence, .wait 490, .recordPresence] :=
    fun rest safe _ _ => by
      simpa [endsNotLow, MicroOp.mayReturn, MicroOp.lineAfter] using safe .released (by decide)
  have release : KeepsLineUp [.lineRelease] := .single _ fun _ _ => by simp [MicroOp.lineAfter]
  exact ((release.append poll).append (.still (.requireFloat _) fun _ => rfl)).append pulse

theorem keepsLineUp_writeByteWire (v : ByteSource) (hold : Bool) : KeepsLineUp (writeByteWire v hold) := by
  refine .append (.flatMap _ fun i => keepsLineUp_writeBitWire _) ?_
  cases hold
  · exact fun _ safe => safe
  · exact .single .lineHigh fun _ _ => by simp [MicroOp.lineAfter]

theorem keepsLineUp_readByteWire : KeepsLineUp readByteWire :=
  .flatMap _ fun _ => keepsLineUp_readBitWire _

theorem keepsLineUp_searchPosition (p : BitPosition) : KeepsLineUp (searchPosition p) := by
  have reads : KeepsLineUp ([.atPosition p] ++ readBitWire .bit ++ readBitWire .complement) :=
    ((KeepsLineUp.still _ fun _ => rfl).append (keepsLineUp_readBitWire _)).append
      (keepsLineUp_readBitWire _)
  exact (reads.append (.still .chooseDirection fun _ => rfl)).append (keepsLineUp_writeBitWire _)

/-- No command leaves the line low where it may end (R237). -/
theorem keepsLineUp_actionsOf (c : Instr) : KeepsLineUp (actionsOf c) := by
  cases c with
  | reset => exact keepsLineUp_busReset false
  | wbit b => exact keepsLineUp_writeBitWire _
  | rbit => exact (keepsLineUp_readBitWire _).append (.still .storeData fun _ => rfl)
  | wbyte p => exact keepsLineUp_writeByteWire _ p
  | rbyte => exact keepsLineUp_readByteWire.append (.still .storeData fun _ => rfl)
  | select =>
    exact (keepsLineUp_writeByteWire _ _).append (.flatMap _ fun k => keepsLineUp_writeByteWire _ _)
  | searchNext =>
    have present : KeepsLineUp ([.checkLastDevice] ++ busReset true ++ [.requirePresence]) :=
      ((KeepsLineUp.still _ fun _ => rfl).append (keepsLineUp_busReset true)).append
        (.still _ fun _ => rfl)
    exact ((present.append (keepsLineUp_writeByteWire _ _)).append
      (.flatMap _ keepsLineUp_searchPosition)).append (.still .conclude fun _ => rfl)
  | searchInit => exact .still .searchInit fun _ => rfl
  | crcClear => exact .still .crcClear fun _ => rfl
  | crcByte => exact .still .crcByte fun _ => rfl
  | crcAddr n => exact .still (.crcAddr n) fun _ => rfl

/-- Actions that set no PRES leave the matter to those that follow. -/
theorem shortClearedFirst_append {ops rest : List MicroOp} (no_presence : .recordPresence ∉ ops)
    (h : shortClearedFirst rest = true) : shortClearedFirst (ops ++ rest) = true := by
  induction ops with
  | nil => exact h
  | cons op ops ih =>
    rw [List.mem_cons, not_or] at no_presence
    obtain ⟨other, no_presence⟩ := no_presence
    cases op
    case recordPresence => exact absurd rfl other
    case requireFloat => rfl
    all_goals exact ih no_presence

/-- Actions that set no PRES have nothing to clear first. -/
theorem shortClearedFirst_of_not_mem {ops : List MicroOp} (no_presence : .recordPresence ∉ ops) :
    shortClearedFirst ops = true := by
  simpa using shortClearedFirst_append no_presence (rest := []) rfl

/-- A bus reset clears SHORT before its presence sample, and so before all that follows it (R110). -/
theorem shortClearedFirst_busReset_append (forSearch : Bool) (rest : List MicroOp) :
    shortClearedFirst (busReset forSearch ++ rest) = true := by
  have poll : .recordPresence ∉ [.lineRelease] ++ (List.replicate 125 pollIteration).flatten := by
    rw [List.mem_append, List.mem_flatten]
    rintro (h | ⟨ops, polls, h⟩)
    · simp at h
    · rw [List.eq_of_mem_replicate polls] at h
      simp [pollIteration] at h
  simp only [busReset, List.append_assoc]
  rw [← List.append_assoc]
  exact shortClearedFirst_append poll rfl

theorem recordPresence_not_mem_writeByteWire (v : ByteSource) (hold : Bool) :
    .recordPresence ∉ writeByteWire v hold := by
  cases hold <;> simp [writeByteWire, writeBitWire]

/-- Every command clears SHORT before it can set PRES (R26, R110). -/
theorem shortClearedFirst_actionsOf (c : Instr) : shortClearedFirst (actionsOf c) = true := by
  cases c with
  | reset => simpa [actionsOf] using shortClearedFirst_busReset_append false []
  | searchNext =>
    simp only [actionsOf, List.append_assoc]
    exact shortClearedFirst_append (by simp) (shortClearedFirst_busReset_append true _)
  | wbit b => rfl
  | rbit => rfl
  | wbyte p => exact shortClearedFirst_of_not_mem (recordPresence_not_mem_writeByteWire _ p)
  | rbyte => exact shortClearedFirst_of_not_mem (by simp [actionsOf, readByteWire, readBitWire])
  | select =>
    exact shortClearedFirst_of_not_mem
      (by simp [actionsOf, recordPresence_not_mem_writeByteWire])
  | searchInit | crcClear | crcByte | crcAddr => rfl

/-! ### Events keep the invariant -/

/-- An accepted command starts with its invariant. -/
theorem State.Inv.accept_running {s : State} (inv : s.Inv) (out_of_reset : s.rstN = true)
    (idle : s.phase = .idle) (c : Instr) : (s.accept c).Running (actionsOf c) where
  busy := by simp
  out_of_reset := out_of_reset
  lastDisc_legal := inv.lastDisc_legal
  presence_not_short := inv.presence_not_short
  ticks_positive := inv.ticks_positive
  lz_legal := ⟨le_rfl, by simp [Work.clear]⟩
  ends_not_low := (keepsLineUp_actionsOf c).endsNotLow (inv.idle_not_low idle)
  short_cleared _ := shortClearedFirst_actionsOf c

/-- What the invariant looks at, the held reset apart. -/
structure SameInvariantFields (s t : State) : Prop where
  lastDisc : t.lastDisc = s.lastDisc
  pres : t.pres = s.pres
  short : t.short = s.short
  params : t.params = s.params
  phase : t.phase = s.phase
  work : t.work = s.work
  line : t.line = s.line

theorem State.Inv.of_same {s t : State} (inv : s.Inv) (same : SameInvariantFields s t)
    (held : t.rstN = false → t.resetBlock = t) : t.Inv := by
  obtain ⟨lastDisc, pres, short, params, phase, work, line⟩ := same
  have busy : t.busy = s.busy := by simp only [State.busy, phase]
  constructor
  case held_in_reset => exact held
  all_goals simp only [lastDisc, pres, short, params, phase, work, line, busy]
  · exact inv.lastDisc_legal
  · exact inv.presence_not_short
  · exact inv.ticks_positive
  · exact inv.lz_legal
  · exact inv.idle_clear
  · exact inv.idle_not_low
  · exact inv.busy_ends_not_low
  · exact inv.busy_short_cleared

theorem State.Inv.arrive {s : State} (inv : s.Inv) (p : Scheduled) (rest : List Scheduled) :
    (s.arrive p rest).Inv :=
  inv.of_same ⟨rfl, rfl, rfl, rfl, rfl, rfl, rfl⟩ fun low =>
    congrArg (State.arrive · p rest) (inv.held_in_reset low)

/-- R54: a read changes no state of the OWC. -/
theorem State.Inv.hostRead {s : State} (inv : s.Inv) (off : Fin 32) : (s.hostRead off).Inv :=
  inv.of_same ⟨rfl, rfl, rfl, rfl, rfl, rfl, rfl⟩ fun low =>
    congrArg (fun u : State => { u with
      replies := (s.hostRead off).replies, readDraws := (s.hostRead off).readDraws })
      (inv.held_in_reset low)

@[simp] theorem State.hostWrite_of_reset {s : State} (low : s.rstN = false) (off : Fin 32) (v : Byte) :
    s.hostWrite off v = s := by
  simp [State.hostWrite, low]

theorem State.Inv.hostWrite {s : State} (inv : s.Inv) (off : Fin 32) (v : Byte) :
    (s.hostWrite off v).Inv := by
  obtain ⟨phase, work, line, -, -, pres, short, -, -, lastDisc, -, -, params, -, rstN, -, -⟩ :=
    s.hostWrite_frame off v
  refine inv.of_same ⟨lastDisc, pres, short, params, phase, work, line⟩ fun low => ?_
  rw [rstN] at low
  rw [State.hostWrite_of_reset low]
  exact inv.held_in_reset low

/-- A block that rst_n has put in its reset state meets the invariant (R230). -/
theorem State.resetBlock_inv (s : State) (ticks : 1 ≤ s.params.ticksPerUs) (high : Bool)
    (log : List LineAction) : ({ s.resetBlock with rstN := high, log := log } : State).Inv where
  lastDisc_legal := .inl rfl
  presence_not_short := nofun
  ticks_positive := ticks
  lz_legal := ⟨le_rfl, by simp [Work.clear]⟩
  idle_clear _ := rfl
  idle_not_low _ := nofun
  busy_ends_not_low := nofun
  busy_short_cleared := nofun
  held_in_reset _ := rfl

theorem State.Inv.setRstN {s : State} (inv : s.Inv) (high : Bool) : (s.setRstN high).Inv := by
  obtain ⟨-, -, e⟩ | ⟨-, e⟩ := s.setRstN_cases high <;> rw [e]
  · exact inv
  · exact s.resetBlock_inv inv.ticks_positive _ _

theorem Landed.inv {u t : State} (landed : Landed u t) (inv : u.Inv) : t.Inv := by
  cases landed with
  | nothing => exact inv
  | read off => exact inv.hostRead off
  | write off v => exact inv.hostWrite off v
  | command c out_of_reset idle => exact (inv.accept_running out_of_reset idle c).runSeq_inv _
  | reset high => exact inv.setRstN high

/-! ### The obligations -/

/-- Settles O57: the sequencer's own run keeps the invariant, and so does whatever lands after it. -/
theorem stepKeepsInv : Obligations.StepKeepsInv := by
  intro s t inv h
  obtain ⟨-, rfl⟩ | ⟨p, rest, -, landed⟩ := step_cases h
  · exact inv.proceed
  · exact landed.inv (inv.proceed.arrive p rest)

/-- Settles O55, `Forward` being read in the order of the trace. -/
theorem stepOnlyGoesForward : Obligations.StepOnlyGoesForward := by
  intro s t h
  obtain ⟨⟨params, ⟨w, log⟩, clock, replies, answers⟩, pending⟩ := step_forward h
  exact ⟨params, ⟨w.reverse, by simp [State.trace, log]⟩, clock, pending, replies, answers⟩

/-- Settles O54: with nothing scheduled the step is the sequencer's own run, without a budget. -/
theorem stepWithoutEvents : Obligations.StepWithoutEvents := by
  intro s none
  have own : step s = .next s.proceed := by simp [step, stepMachine, none]
  refine ⟨fun idle => by rw [own, State.proceed_of_idle idle], fun c busy => ⟨_, own, ?_, ?_⟩⟩
  · simp [State.proceed, State.finish, busy, none]
  · simp only [State.proceed, busy, State.budget_of_no_events none]
    exact runSeq_none_phase _ _

/-- Settles O59: the ports by the three states of the line driver, and the reply of a read. -/
theorem portsFollowState : Obligations.PortsFollowState := by
  intro s
  refine ⟨?_, ?_, ?_, rfl, fun off => ⟨s.hostRead off, by simp [land], rfl, rfl, rfl⟩⟩
  · cases h : s.line <;> simp [State.owOe, h]
  · cases h : s.line <;> simp [State.owO, h]
  · cases h : s.line <;> simp [State.owO, h]

end Sys2Proof.Machine
end

section
/-! PROOFS. The family 10_state.md: the register window and its reset values, how ERR changes, which
registers a command writes, where it leaves the line, and that later events leave its result alone. -/

namespace Sys2Proof.Machine

open Sys2Proof

/-! ### The register window -/

/-- Where the reserved offsets stand (R35). -/
theorem registerAt_reserved {off : Fin 32}
    (h : (0x05 ≤ off.val ∧ off.val ≤ 0x07) ∨ 0x18 ≤ off.val) : registerAt off = .reserved := by
  revert off; decide

theorem registerAt_eq_lastDisc_iff (off : Fin 32) : registerAt off = .lastDisc ↔ off.val = 0x04 := by
  revert off; decide

theorem registerAt_zero {off : Fin 32} (h : off.val = 0x00) : registerAt off = .cmd := by
  revert off; decide

theorem registerAt_one {off : Fin 32} (h : off.val = 0x01) : registerAt off = .status := by
  revert off; decide

/-- The offsets of DATA, CRC and ADDR (R21). -/
theorem registerAt_operand {off : Fin 32}
    (h : off.val = 0x02 ∨ off.val = 0x03 ∨ (0x08 ≤ off.val ∧ off.val ≤ 0x0F)) :
    registerAt off = .data ∨ registerAt off = .crc ∨ ∃ k, registerAt off = .addr k := by
  revert off; decide

/-- The offsets of LASTDISC and SROM, which the host only reads, and the reserved ones (R21). -/
theorem registerAt_readOnly {off : Fin 32}
    (h : (0x04 ≤ off.val ∧ off.val ≤ 0x07) ∨ 0x10 ≤ off.val) :
    registerAt off = .lastDisc ∨ registerAt off = .reserved ∨ ∃ k, registerAt off = .srom k := by
  revert off; decide

/-! ### Reads -/

theorem State.readValue_of_not_draw {s : State} {off : Fin 32}
    (h : s.isDraw (registerAt off) = false) : s.readValue off = s.peek (registerAt off) := by
  simp [State.readValue, h]

theorem State.isDraw_of_idle {s : State} (idle : s.phase = .idle) (r : Register) :
    s.isDraw r = false := by
  simp [State.isDraw, idle]

/-- No command writes a reserved offset (R55). -/
@[simp] theorem mayWrite_reserved (c : Instr) : mayWrite c .reserved = false := by
  cases c <;> rfl

@[simp] theorem State.isDraw_reserved (s : State) : s.isDraw .reserved = false := by
  unfold State.isDraw
  split <;> simp

theorem Bytes8.zero_getElem (k : Fin 8) : Bytes8.zero[k] = 0x00 := by
  revert k; decide

/-- Every register is 0x00 at reset but LASTDISC, which is "none" (R22 to R35). -/
theorem State.reset_peek (r : Register) :
    State.reset.peek r = if r = .lastDisc then 0xFF else 0x00 := by
  cases r with
  | addr k | srom k => exact Bytes8.zero_getElem k
  | cmd | status | data | crc | lastDisc | reserved => decide

theorem State.exists_busy_iff (s : State) : s.busy = true ↔ ∃ c, s.phase = .busy c := by
  cases h : s.phase <;> simp [State.busy, h]

theorem State.busy_of_idle {s : State} (h : s.phase = .idle) : s.busy = false := by
  simp [State.busy, h]

/-- The one-bit fields of STATUS (R23). -/
theorem State.status_bits (s : State) :
    s.status.getLsbD 7 = s.err ∧ s.status.getLsbD 3 = s.ldf ∧ s.status.getLsbD 2 = s.short ∧
    s.status.getLsbD 1 = s.pres ∧ s.status.getLsbD 0 = s.busy := by
  simp only [State.status, BitVec.getLsbD_append]
  simp

/-- The three-bit field of STATUS (R23, R28). -/
theorem State.status_sres (s : State) : s.status.extractLsb' 4 3 = s.sres.code := by
  apply BitVec.eq_of_getElem_eq
  intro i hi
  simp only [State.status, BitVec.getElem_extractLsb', BitVec.getLsbD_append]
  interval_cases i <;> simp

/-! ### Writes and ERR -/

theorem decode?_eq_some_iff (v : Byte) (c : Instr) : decode? v = some c ↔ decode v = .ok c := by
  unfold decode?
  split <;> simp [*]

theorem decode?_isNone_iff (v : Byte) : (decode? v).isNone = true ↔ ∀ c, decode v ≠ .ok c := by
  simp [Option.eq_none_iff_forall_ne_some, decode?_eq_some_iff]

/-- Only a write to CMD issues a command (R52). -/
theorem landWrite_of_ne_cmd {off : Fin 32} (h : registerAt off ≠ .cmd) (v : Byte) (s : State) :
    landWrite off v s = .next (s.hostWrite off v) := by
  have none : s.issued off v = none := Option.eq_none_iff_forall_ne_some.2 fun c issued =>
    have ⟨_, _, cmd, _⟩ := State.issued_eq_some issued
    h cmd
  simp [landWrite, none]

theorem State.hostWrite_reserved {off : Fin 32} (h : registerAt off = .reserved) (s : State)
    (v : Byte) : s.hostWrite off v = s := by
  simp [State.hostWrite, State.writeBusy, State.writeIdle, h]

theorem land_write_window (s : State) (off : Fin 32) (v : Byte) :
    land (.write (s.params.owcBase + off.val) 1 v) s = landWrite off v s := by
  simp [land]

/-- An access outside the interface selects no register (R60). -/
theorem State.selected_eq_none {s : State} {a w : Nat}
    (h : w ≠ 1 ∨ a < s.params.owcBase ∨ s.params.owcBase + 32 ≤ a) : s.selected a w = none := by
  refine Option.eq_none_iff_forall_ne_some.2 fun off selected => ?_
  rw [State.selected_eq_some_iff] at selected
  have := off.isLt
  omega

/-- ERR after a write of v to a register of a block out of reset, from the ERR and the BUSY that the
write meets (R29, R52, R53). -/
def errAfterWrite (err busy : Bool) (v : Byte) : Register → Bool
  | .status => err && !v.getLsbD 7
  | .cmd => err || busy || (decode? v).isNone
  | .data | .crc | .addr _ => err || busy
  | .lastDisc | .srom _ | .reserved => err

theorem errAfterWrite_cmd {off : Fin 32} (err busy : Bool) (v : Byte) (h : off.val = 0x00) :
    errAfterWrite err busy v (registerAt off) = (err || busy || (decode? v).isNone) := by
  rw [registerAt_zero h, errAfterWrite]

theorem errAfterWrite_operand {off : Fin 32} (err busy : Bool) (v : Byte)
    (h : off.val = 0x02 ∨ off.val = 0x03 ∨ (0x08 ≤ off.val ∧ off.val ≤ 0x0F)) :
    errAfterWrite err busy v (registerAt off) = (err || busy) := by
  obtain e | e | ⟨k, e⟩ := registerAt_operand h <;> rw [e, errAfterWrite]

theorem errAfterWrite_readOnly {off : Fin 32} (err busy : Bool) (v : Byte)
    (h : (0x04 ≤ off.val ∧ off.val ≤ 0x07) ∨ 0x10 ≤ off.val) :
    errAfterWrite err busy v (registerAt off) = err := by
  obtain e | e | ⟨k, e⟩ := registerAt_readOnly h <;> rw [e, errAfterWrite]

theorem State.hostWrite_err {s : State} {off : Fin 32} {v : Byte} (out : s.rstN = true)
    (none : s.issued off v = none) :
    (s.hostWrite off v).err = errAfterWrite s.err s.busy v (registerAt off) := by
  cases busy : s.busy with
  | true =>
    simp only [State.hostWrite, out, busy, if_true]
    cases registerAt off <;> simp [State.writeBusy, errAfterWrite]
  | false =>
    simp only [State.hostWrite, State.issued, out, busy] at none ⊢
    cases r : registerAt off
    case cmd =>
      have illegal : decode? v = Option.none := by simpa [r] using none
      simp [State.writeIdle, errAfterWrite, illegal]
    all_goals simp [State.writeIdle, errAfterWrite]

/-- "No command sets it" (R29). -/
theorem exec_err {c : Instr} {s t : State} (h : exec c s = .next t) : t.err = s.err := by
  rw [exec_eq_runCommand] at h
  cases h
  exact (runSeq_sameOutside _ _ _).err

theorem landWrite_err {off : Fin 32} {v : Byte} {s t : State} (out : s.rstN = true)
    (h : landWrite off v s = .next t) : t.err = errAfterWrite s.err s.busy v (registerAt off) := by
  unfold landWrite at h
  split at h
  · next c issued =>
    obtain ⟨-, idle, cmd, legal⟩ := State.issued_eq_some issued
    simp [exec_err h, errAfterWrite, cmd, idle, legal]
  · next issued =>
    cases h
    exact State.hostWrite_err out issued

theorem land_read_err {a w : Nat} {s t : State} (h : land (.read a w) s = .next t) :
    t.err = s.err := by
  simp only [land] at h
  split at h <;> cases h <;> rfl

theorem State.setRstN_err (s : State) (high : Bool) :
    (s.setRstN high).err = (s.rstN && high && s.err) := by
  obtain ⟨up, rfl, e⟩ | ⟨low, e⟩ := s.setRstN_cases high <;> rw [e]
  · simp [up]
  · rcases low with low | low <;> simp [low]

theorem step_of_event {s : State} {p : Scheduled} {rest : List Scheduled}
    (h : s.pending = p :: rest) :
    step s = land p.event (s.proceed.arrive p rest) := by
  simp [step, stepMachine, h]

/-- The block that a step's event meets has the ERR, the rst_n and the parameters the step began with,
and the BUSY that the sequencer has come to. -/
theorem State.arrive_proceed_same (s : State) (p : Scheduled) (rest : List Scheduled) :
    (s.proceed.arrive p rest).err = s.err ∧ (s.proceed.arrive p rest).rstN = s.rstN ∧
    (s.proceed.arrive p rest).params = s.params ∧
    (s.proceed.arrive p rest).busy = s.proceed.busy :=
  have same := s.proceed_sameOutside
  ⟨same.err, same.rstN, same.params, rfl⟩

/-! ### What a run keeps -/

/-- f looks at nothing that the acceptance of a command, the passing of time, a pause or the end of a
command changes. -/
def IgnoresControl {α : Type} (f : State → α) : Prop :=
  ∀ (s : State) (cmd : Byte) (phase : Phase) (work : Work) (clock : Nat),
    f { s with cmd := cmd, phase := phase, work := work, clock := clock } = f s

section
variable {α : Type} {f : State → α} {ops : List MicroOp}

/-- What every action of a run keeps, the run keeps, wherever it stops. -/
theorem runSeq_keeps (control : IgnoresControl f)
    (action : ∀ op ∈ ops, ∀ s, f (perform op s).state = f s) (g : Option Nat) (s : State) :
    f (runSeq g ops s) = f s := by
  induction ops generalizing g s with
  | nil => rw [runSeq_nil]; exact control s _ _ _ _
  | cons op rest ih =>
    obtain ⟨here, later⟩ := List.forall_mem_cons.1 action
    have done : f (perform op (s.spend (op.cycles s - s.work.elapsed))).state = f s :=
      (here _).trans (control s _ _ _ _)
    obtain ⟨b, -, -, e⟩ | ⟨t, g', h, e⟩ | ⟨t, h, e⟩ := runSeq_cons_cases g op rest s <;> rw [e]
    · exact control s _ _ _ _
    · rw [h] at done; exact (ih later g' t).trans done
    · rw [h] at done; exact (control t _ _ _ _).trans done

theorem runCommand_keeps (control : IgnoresControl f)
    (action : ∀ op ∈ ops, ∀ s, f (perform op s).state = f s) (c : Instr) (s : State) :
    f (runCommand c ops s) = f s :=
  (runSeq_keeps control action _ _).trans (control s _ _ _ _)

end

/-! ### Which actions write which registers -/

/-- DATA is written by the end of a read, CRC by the CRC commands' actions, ADDR by the report of the
search (R30, R31, R33). -/
theorem perform_data_crc_addr (op : MicroOp) (s : State) :
    (op ≠ .storeData → (perform op s).state.data = s.data) ∧
    (¬(op = .crcClear ∨ op = .crcByte ∨ ∃ n, op = .crcAddr n) → (perform op s).state.crc = s.crc) ∧
    (op ≠ .conclude → (perform op s).state.addr = s.addr) := by
  cases op
  case storeData | crcClear | crcByte | crcAddr => simp [perform]
  case pollWait | pollSample | requireFloat | requirePresence | checkLastDevice | chooseDirection |
      conclude =>
    simp only [perform, State.pollOnce, State.requireFloat, State.report]
    split_ifs <;> simp
  all_goals exact ⟨fun _ => rfl, fun _ => rfl, fun _ => rfl⟩

/-- PRES and SHORT (R25, R26). -/
def State.presence (s : State) : Bool × Bool := (s.pres, s.short)

theorem perform_presence {op : MicroOp}
    (h : ¬(op = .recordPresence ∨ ∃ f, op = .requireFloat f)) (s : State) :
    (perform op s).state.presence = s.presence := by
  rw [not_or, not_exists] at h
  obtain ⟨pres, short⟩ := perform_pres_short op s h.2 h.1
  exact Prod.ext pres short

/-- The actions that write SRES, LDF, LASTDISC or SROM (R162, R170). -/
def MicroOp.searches : MicroOp → Bool
  | .requireFloat forSearch => forSearch
  | .requirePresence | .checkLastDevice | .chooseDirection | .conclude | .searchInit => true
  | .lineLow | .lineHigh | .lineRelease | .wait _ | .slotLow _ | .slotRest _ | .sample _ => false
  | .pollWait | .pollSample | .recordPresence | .storeData | .atPosition _ => false
  | .crcClear | .crcByte | .crcAddr _ => false

/-- The registers of the search, ADDR apart (R27, R28, R32, R34). -/
def State.searchRegisters (s : State) : SearchResult × Bool × Byte × Bytes8 :=
  (s.sres, s.ldf, s.lastDisc, s.srom)

theorem perform_searchRegisters {op : MicroOp} (h : op.searches = false) (s : State) :
    (perform op s).state.searchRegisters = s.searchRegisters := by
  cases op
  case requirePresence | checkLastDevice | chooseDirection | conclude | searchInit => cases h
  case requireFloat forSearch =>
    obtain rfl : forSearch = false := h
    simp only [perform, State.requireFloat, Bool.false_eq_true, if_false]
    split <;> rfl
  case pollWait | pollSample =>
    simp only [perform, State.pollOnce]
    split <;> rfl
  all_goals rfl

/-- The answers that are left, and how many the free value has given (R6). -/
def State.samples (s : State) : List Bool × Nat := (s.answers, s.sampleDraws)

theorem perform_samples {op : MicroOp} (h : ¬(op = .pollSample ∨ ∃ t, op = .sample t)) (s : State) :
    (perform op s).state.samples = s.samples := by
  cases op
  case sample | pollSample => simp at h
  case pollWait | requireFloat | requirePresence | checkLastDevice | chooseDirection | conclude =>
    simp only [perform, State.requireFloat, State.report]
    split_ifs <;> rfl
  all_goals rfl

/-! ### Which actions each procedure is made of -/

@[simp] theorem mem_byteBits (i : Fin 8) : i ∈ byteBits := by revert i; decide
@[simp] theorem mem_addressBytes (k : Fin 8) : k ∈ addressBytes := by revert k; decide
@[simp] theorem mem_positions (p : BitPosition) : p ∈ positions := List.mem_finRange p

section
variable {op : MicroOp}

@[simp] theorem mem_writeBitWire {b : BitSource} : op ∈ writeBitWire b ↔
    op = .lineLow ∨ op = .slotLow b ∨ op = .lineRelease ∨ op = .slotRest b := by
  simp [writeBitWire]

@[simp] theorem mem_readBitWire {t : SampleTarget} : op ∈ readBitWire t ↔
    op = .lineLow ∨ op = .wait 3 ∨ op = .lineRelease ∨ op = .wait 10 ∨ op = .sample t ∨
      op = .wait 53 := by
  simp [readBitWire]

@[simp] theorem mem_writeByteWire {v : ByteSource} {hold : Bool} : op ∈ writeByteWire v hold ↔
    (∃ i, op ∈ writeBitWire (.byteBit v i)) ∨ hold = true ∧ op = .lineHigh := by
  cases hold <;> simp [writeByteWire]

@[simp] theorem mem_readByteWire : op ∈ readByteWire ↔ ∃ i, op ∈ readBitWire (.value i) := by
  simp [readByteWire]

theorem mem_polls :
    op ∈ (List.replicate 125 pollIteration).flatten ↔ op = .pollWait ∨ op = .pollSample := by
  simp [pollIteration, -List.reduceReplicate]

@[simp] theorem mem_busReset {forSearch : Bool} : op ∈ busReset forSearch ↔
    op = .lineRelease ∨ op = .pollWait ∨ op = .pollSample ∨ op = .requireFloat forSearch ∨
      op = .lineLow ∨ op = .wait 500 ∨ op = .wait 65 ∨ op = .sample .presence ∨ op = .wait 490 ∨
      op = .recordPresence := by
  simp only [busReset, List.mem_append, mem_polls, List.mem_cons, List.not_mem_nil, or_false]
  tauto

@[simp] theorem mem_searchPosition {p : BitPosition} : op ∈ searchPosition p ↔
    op = .atPosition p ∨ op ∈ readBitWire .bit ∨ op ∈ readBitWire .complement ∨
      op = .chooseDirection ∨ op ∈ writeBitWire .dir := by
  simp [searchPosition, or_assoc]

/-! ### Which commands write which registers -/

variable {i : Instr}

theorem eq_of_storeData_mem (mem : .storeData ∈ actionsOf i) : i = .rbit ∨ i = .rbyte := by
  cases i <;> simp [actionsOf] at mem ⊢

theorem eq_of_crc_mem (mem : op ∈ actionsOf i)
    (h : op = .crcClear ∨ op = .crcByte ∨ ∃ n, op = .crcAddr n) :
    i = .crcClear ∨ i = .crcByte ∨ ∃ n, i = .crcAddr n := by
  obtain rfl | rfl | ⟨n, rfl⟩ := h <;> cases i <;> simp [actionsOf] at mem ⊢

theorem eq_of_conclude_mem (mem : .conclude ∈ actionsOf i) : i = .searchNext := by
  cases i <;> simp [actionsOf] at mem ⊢

theorem eq_of_presence_mem (mem : op ∈ actionsOf i)
    (h : op = .recordPresence ∨ ∃ f, op = .requireFloat f) : i = .reset ∨ i = .searchNext := by
  obtain rfl | ⟨f, rfl⟩ := h <;> cases i <;> simp [actionsOf] at mem ⊢

theorem eq_of_searches_mem (mem : op ∈ actionsOf i) (h : op.searches = true) :
    i = .searchNext ∨ i = .searchInit := by
  cases op
  case requireFloat forSearch =>
    obtain rfl : forSearch = true := h
    cases i <;> simp [actionsOf] at mem ⊢
  case requirePresence | checkLastDevice | chooseDirection | conclude | searchInit =>
    cases i <;> simp [actionsOf] at mem ⊢
  all_goals cases h

/-- The commands that only write to the line sample nothing (R121, R123, R125). -/
theorem not_sample_of_mem (h : (∃ b, i = .wbit b) ∨ (∃ p, i = .wbyte p) ∨ i = .select)
    (mem : op ∈ actionsOf i) : ¬(op = .pollSample ∨ ∃ t, op = .sample t) := by
  rintro (rfl | ⟨t, rfl⟩) <;> obtain ⟨b, rfl⟩ | ⟨p, rfl⟩ | rfl := h <;> simp [actionsOf] at mem

/-- LSTATE, the line trace and the samples. -/
def State.bus (s : State) : LineState × List LineAction × List Bool × Nat :=
  (s.line, s.log, s.answers, s.sampleDraws)

/-- The commands without line action (R150, R165). -/
theorem runCommand_bus
    (h : i = .searchInit ∨ i = .crcClear ∨ i = .crcByte ∨ ∃ n, i = .crcAddr n) (s : State) :
    (runCommand i (actionsOf i) s).bus = s.bus := by
  refine runCommand_keeps (fun _ _ _ _ _ => rfl) (fun op mem u => ?_) i s
  obtain rfl | rfl | rfl | ⟨n, rfl⟩ := h <;> rw [List.mem_singleton.1 mem] <;> rfl

end

/-! ### Where a command leaves the line -/

/-- Performing these actions from LSTATE l to the end of the command, by a `return` or not, leaves the
line at `target`. -/
def EndsAt (target : LineState) : LineState → List MicroOp → Prop
  | l, [] => l = target
  | l, op :: rest => (op.mayReturn = true → l = target) ∧ EndsAt target (op.lineAfter l) rest

theorem runSeq_none_line {target : LineState} {ops : List MicroOp} {s : State}
    (h : EndsAt target s.line ops) : (runSeq none ops s).line = target := by
  induction ops generalizing s with
  | nil => exact h
  | cons op rest ih =>
    obtain ⟨returns, later⟩ := h
    have line := (perform_frame op (s.spend (op.cycles s - s.work.elapsed))).line
    cases e : perform op (s.spend (op.cycles s - s.work.elapsed)) with
    | go t =>
      rw [e] at line
      rw [runSeq_cons_go e]
      exact ih (line.symm ▸ later)
    | stop t =>
      have returned := mayReturn_of_perform_eq_stop e
      rw [e, lineAfter_of_mayReturn returned] at line
      rw [runSeq_cons_stop e]
      exact line.trans (returns returned)

section
variable {target l : LineState} {rest : List MicroOp}

theorem endsAt_of_append_nil {ops : List MicroOp} (h : EndsAt target l (ops ++ [])) :
    EndsAt target l ops :=
  ops.append_nil ▸ h

@[simp] theorem endsAt_writeBitWire_append (b : BitSource) :
    EndsAt target l (writeBitWire b ++ rest) ↔ EndsAt target .released rest := by
  simp [writeBitWire, EndsAt, MicroOp.mayReturn, MicroOp.lineAfter]

@[simp] theorem endsAt_readBitWire_append (t : SampleTarget) :
    EndsAt target l (readBitWire t ++ rest) ↔ EndsAt target .released rest := by
  simp [readBitWire, EndsAt, MicroOp.mayReturn, MicroOp.lineAfter]

@[simp] theorem endsAt_writeByteWire_append (v : ByteSource) :
    EndsAt target l (writeByteWire v false ++ rest) ↔ EndsAt target .released rest := by
  simp [writeByteWire, byteBits]

@[simp] theorem endsAt_readByteWire_append :
    EndsAt target l (readByteWire ++ rest) ↔ EndsAt target .released rest := by
  simp [readByteWire, byteBits]

theorem endsAt_polls_append (n : Nat) :
    EndsAt target l ((List.replicate n pollIteration).flatten ++ rest) ↔ EndsAt target l rest := by
  induction n with
  | zero => rfl
  | succ n ih =>
    rw [List.replicate_succ, List.flatten_cons, List.append_assoc, ← ih]
    simp [pollIteration, EndsAt, MicroOp.mayReturn, MicroOp.lineAfter]

/-- A bus reset releases the line before the one check at which it may return, and after its pulse
(R110). -/
theorem endsAt_busReset_append (forSearch : Bool) :
    EndsAt .released l (busReset forSearch ++ rest) ↔ EndsAt .released .released rest := by
  simp only [busReset, List.append_assoc, List.cons_append, List.nil_append, EndsAt,
    endsAt_polls_append]
  simp [MicroOp.mayReturn, MicroOp.lineAfter]

theorem endsAt_searchPositions_append (ps : List BitPosition) :
    EndsAt .released .released (ps.flatMap searchPosition ++ rest) ↔
      EndsAt .released .released rest := by
  induction ps with
  | nil => rfl
  | cons p ps ih =>
    rw [← ih]
    simp [searchPosition, EndsAt, MicroOp.mayReturn, MicroOp.lineAfter]

/-- SELECT ends with a byte written (R125). -/
theorem endsAt_select_append :
    EndsAt target l (actionsOf .select ++ rest) ↔ EndsAt target .released rest := by
  simp [actionsOf, addressBytes]

end

/-- A byte written leaves the line released, or high with holdPower (R113, R123). -/
theorem endsAt_writeByteWire (l : LineState) (v : ByteSource) (hold : Bool) :
    EndsAt (if hold then .driveHigh else .released) l (writeByteWire v hold) := by
  cases hold with
  | false => exact endsAt_of_append_nil ((endsAt_writeByteWire_append v).2 rfl)
  | true =>
    have split : writeByteWire v true = writeByteWire v false ++ [.lineHigh] := by
      simp [writeByteWire]
    rw [split]
    exact (endsAt_writeByteWire_append v).2 ⟨nofun, rfl⟩

/-- Step 1 of SEARCH_NEXT: it returns with EXHAUSTED, or the command goes on (R170). -/
theorem runSeq_none_checkLastDevice (rest : List MicroOp) (s : State) :
    runSeq none (.checkLastDevice :: rest) s =
      if s.ldf then
        ((s.spend (MicroOp.checkLastDevice.cycles s - s.work.elapsed)).endSearch .exhausted).complete
      else runSeq none rest (s.spend (MicroOp.checkLastDevice.cycles s - s.work.elapsed)) := by
  cases ldf : s.ldf with
  | true => rw [if_pos rfl]; exact runSeq_cons_stop (by simp [perform, ldf])
  | false => rw [if_neg (by decide)]; exact runSeq_cons_go (by simp [perform, ldf])

/-- SEARCH_NEXT without its step 1. -/
def searchNextFromStep2 : List MicroOp :=
  busReset true ++ ([.requirePresence] ++ (writeByteWire .searchRomCmd false ++
    (positions.flatMap searchPosition ++ [.conclude])))

theorem actionsOf_searchNext : actionsOf .searchNext = .checkLastDevice :: searchNextFromStep2 := by
  simp only [actionsOf, searchNextFromStep2, List.append_assoc, List.cons_append, List.nil_append]

theorem endsAt_searchNextFromStep2 (l : LineState) : EndsAt .released l searchNextFromStep2 := by
  rw [searchNextFromStep2, endsAt_busReset_append]
  simp [EndsAt, MicroOp.mayReturn, MicroOp.lineAfter, endsAt_searchPositions_append]

/-! ### Events after the end of a command -/

/-- s with another schedule. -/
def State.reschedule (s : State) (q : List Scheduled) : State := { s with pending := q }

/-- The same of what an action leaves. -/
def Flow.reschedule (q : List Scheduled) : Flow → Flow
  | .go s => .go (s.reschedule q)
  | .stop s => .stop (s.reschedule q)

@[simp] theorem Flow.reschedule_go (q : List Scheduled) (s : State) :
    (Flow.go s).reschedule q = .go (s.reschedule q) := rfl
@[simp] theorem Flow.reschedule_stop (q : List Scheduled) (s : State) :
    (Flow.stop s).reschedule q = .stop (s.reschedule q) := rfl

/-- No action looks at the schedule. -/
theorem perform_reschedule (op : MicroOp) (s : State) (q : List Scheduled) :
    perform op (s.reschedule q) = (perform op s).reschedule q := by
  cases op
  case pollWait | pollSample | requireFloat | requirePresence | checkLastDevice | chooseDirection |
      conclude =>
    simp only [perform, State.pollOnce, State.requireFloat, State.report, Flow.reschedule_go,
      Flow.reschedule_stop, apply_ite (Flow.reschedule q),
      apply_ite (fun u : State => u.reschedule q)]
    rfl
  all_goals rfl

theorem cycles_left_reschedule (op : MicroOp) (s : State) (q : List Scheduled) :
    op.cycles (s.reschedule q) - (s.reschedule q).work.elapsed = op.cycles s - s.work.elapsed := by
  cases op <;> rfl

/-- With its budget given, a run does not look at the schedule. -/
theorem runSeq_reschedule (g : Option Nat) (ops : List MicroOp) (s : State) (q : List Scheduled) :
    runSeq g ops (s.reschedule q) = (runSeq g ops s).reschedule q := by
  induction ops generalizing g s with
  | nil => rw [runSeq_nil, runSeq_nil]; rfl
  | cons op rest ih =>
    have done : perform op ((s.reschedule q).spend (op.cycles s - s.work.elapsed)) =
        (perform op (s.spend (op.cycles s - s.work.elapsed))).reschedule q := by
      rw [← perform_reschedule]; rfl
    cases g with
    | none =>
      rw [runSeq, runSeq, cycles_left_reschedule, done]
      cases perform op (s.spend (op.cycles s - s.work.elapsed)) with
      | go t => exact ih none t
      | stop t => rfl
    | some b =>
      rw [runSeq, runSeq, cycles_left_reschedule, done]
      split
      · cases perform op (s.spend (op.cycles s - s.work.elapsed)) with
        | go t => exact ih _ t
        | stop t => rfl
      · rfl

/-- A budget that reaches to the command's end is as good as none. -/
theorem runSeq_of_enough_budget {ops : List MicroOp} {s : State} {b : Nat}
    (h : (runSeq none ops s).clock ≤ s.clock + b) : runSeq (some b) ops s = runSeq none ops s := by
  induction ops generalizing b s with
  | nil => rfl
  | cons op rest ih =>
    have clock := (perform_frame op (s.spend (op.cycles s - s.work.elapsed))).clock
    rw [runSeq] at h
    rw [runSeq, runSeq]
    cases e : perform op (s.spend (op.cycles s - s.work.elapsed)) with
    | go t =>
      simp only [e, Flow.state_go, State.spend_clock] at h clock ⊢
      have onward := (runSeq_forward none rest t).clock
      rw [if_pos (by omega)]
      exact ih (by omega)
    | stop t =>
      simp only [e, Flow.state_stop, State.spend_clock, State.complete_clock] at h clock ⊢
      rw [if_pos (by omega)]

/-- A command that ends before the first event is due runs as if nothing were scheduled. -/
theorem runCommand_of_later_events {i : Instr} {ops : List MicroOp} {s : State}
    (later : ∀ p ∈ s.pending.head?, (runSeq none ops (s.accept i)).clock ≤ p.time) :
    runCommand i ops s = runSeq none ops (s.accept i) := by
  cases pending : s.pending with
  | nil => exact runCommand_of_no_events pending _ _
  | cons p rest =>
    have due := later p (by simp [pending])
    simp only [runCommand, State.budget, pending]
    exact runSeq_of_enough_budget (by simp only [State.accept_clock]; omega)

/-! ### The obligations -/

/-- Settles O15: an event meets the ERR the step began with, and each kind of event changes it by its
own rule. -/
theorem errChangesOnlyByWriteOrReset : Obligations.ErrChangesOnlyByWriteOrReset := by
  intro s t h
  cases pending : s.pending with
  | nil =>
    simp only [step, stepMachine, pending] at h
    cases h
    exact s.proceed_sameOutside.err
  | cons p rest =>
    rw [step_of_event pending] at h
    obtain ⟨err, rstN, params, busy⟩ := s.arrive_proceed_same p rest
    generalize s.proceed.arrive p rest = met at h err rstN params busy
    obtain ⟨time, event⟩ := p
    cases event with
    | read a w => exact (land_read_err h).trans err
    | rstN high =>
      cases h
      simp only [State.setRstN_err, err, rstN]
      refine ⟨?_, fun up level => by simp [up, level]⟩
      rintro (low | low) <;> simp [low]
    | write a w v =>
      intro out
      rw [← params]
      refine ⟨fun outside => ?_, ?_⟩
      · simp only [land, State.selected_eq_none outside] at h
        cases h
        exact err
      · rintro rfl u off rfl rfl
        rw [land_write_window] at h
        rw [landWrite_err (rstN.trans out) h, err, busy]
        refine ⟨fun at1 => by rw [registerAt_one at1, errAfterWrite], fun at0 idle illegal => ?_,
          fun at0 idle ⟨c, legal⟩ => ?_, fun busy refused => ?_, fun idle operand => ?_,
          errAfterWrite_readOnly _ _ _⟩
        · rw [errAfterWrite_cmd _ _ _ at0, (decode?_isNone_iff v).2 illegal, Bool.or_true]
        · simp [errAfterWrite_cmd _ _ _ at0, State.busy_of_idle idle,
            (decode?_eq_some_iff v c).2 legal]
        · rcases refused with at0 | operand
          · simp [errAfterWrite_cmd _ _ _ at0, busy]
          · simp [errAfterWrite_operand _ _ _ operand, busy]
        · simp [errAfterWrite_operand _ _ _ operand, State.busy_of_idle idle]

/-- Settles O26: each command's actions end at its line state, those of SEARCH_NEXT after step 1. -/
theorem lineStateAfterCommand : Obligations.LineStateAfterCommand := by
  intro i s none
  refine ⟨_, exec_eq_runCommand i s, ?_⟩
  have endsAt {target : LineState} (h : EndsAt target s.line (actionsOf i)) :
      (runCommand i (actionsOf i) s).line = target := by
    rw [runCommand_of_no_events none]
    exact runSeq_none_line h
  cases i with
  | reset => exact endsAt (endsAt_of_append_nil ((endsAt_busReset_append false).2 rfl))
  | wbit b => exact endsAt (endsAt_of_append_nil ((endsAt_writeBitWire_append _).2 rfl))
  | rbit => exact endsAt ((endsAt_readBitWire_append _).2 ⟨nofun, rfl⟩)
  | wbyte p => exact endsAt (endsAt_writeByteWire _ _ p)
  | rbyte => exact endsAt (endsAt_readByteWire_append.2 ⟨nofun, rfl⟩)
  | select => exact endsAt (endsAt_of_append_nil (endsAt_select_append.2 rfl))
  | searchNext =>
    rw [runCommand_of_no_events none, actionsOf_searchNext, runSeq_none_checkLastDevice,
      State.accept_ldf]
    cases s.ldf with
    | true => rfl
    | false =>
      simp only [Bool.false_eq_true, if_false]
      exact runSeq_none_line (endsAt_searchNextFromStep2 _)
  | searchInit | crcClear | crcByte | crcAddr =>
    exact congrArg Prod.fst (runCommand_bus (by simp) s)

/-- Settles O49: what no action touches, and then each register by the commands that have an action
writing it. -/
theorem commandsWriteOnlyTheirRegisters : Obligations.CommandsWriteOnlyTheirRegisters := by
  intro i s t h
  rw [exec_eq_runCommand] at h
  cases h
  obtain ⟨cmd, err, rstN, params, pending, draws, replies⟩ :
      SameOutside (s.accept i) (runCommand i (actionsOf i) s) := runSeq_sameOutside _ _ _
  refine ⟨cmd, err, params, rstN, pending, replies, draws, fun bit byte => ?_,
    fun clear byte addr => ?_, fun reset next => ?_, fun next => ?_, fun next init => ?_,
    fun still => ?_, fun writes => ?_⟩
  · refine runCommand_keeps (f := State.data) (fun _ _ _ _ _ => rfl) (fun op mem u => ?_) i s
    refine (perform_data_crc_addr op u).1 ?_
    rintro rfl
    exact (eq_of_storeData_mem mem).elim bit byte
  · refine runCommand_keeps (f := State.crc) (fun _ _ _ _ _ => rfl) (fun op mem u => ?_) i s
    refine (perform_data_crc_addr op u).2.1 fun h => ?_
    obtain e | e | ⟨n, e⟩ := eq_of_crc_mem mem h
    exacts [clear e, byte e, addr n e]
  · have kept := runCommand_keeps (f := State.presence) (fun _ _ _ _ _ => rfl) (fun op mem =>
      perform_presence fun h => (eq_of_presence_mem mem h).elim reset next) i s
    exact Prod.mk.inj kept
  · refine runCommand_keeps (f := State.addr) (fun _ _ _ _ _ => rfl) (fun op mem u => ?_) i s
    refine (perform_data_crc_addr op u).2.2 ?_
    rintro rfl
    exact next (eq_of_conclude_mem mem)
  · have kept := runCommand_keeps (f := State.searchRegisters) (fun _ _ _ _ _ => rfl) (fun op mem =>
      perform_searchRegisters (Bool.eq_false_iff.2 fun h =>
        (eq_of_searches_mem mem h).elim next init)) i s
    simpa [State.searchRegisters] using kept
  · simpa [State.bus] using runCommand_bus still s
  · have kept := runCommand_keeps (f := State.samples) (fun _ _ _ _ _ => rfl) (fun op mem =>
      perform_samples (not_sample_of_mem writes mem)) i s
    exact Prod.mk.inj kept

/-- Settles O51: the budget reaches to the command's end, and the run does not look at the schedule. -/
theorem laterEventsDoNotMatter : Obligations.LaterEventsDoNotMatter := by
  intro i s t h later
  have alone : runCommand i (actionsOf i) { s with pending := [] } =
      (runSeq none (actionsOf i) (s.accept i)).reschedule [] :=
    runSeq_reschedule none (actionsOf i) (s.accept i) []
  have kept : (runSeq none (actionsOf i) (s.accept i)).pending = s.pending :=
    (runSeq_sameOutside _ _ _).pending
  rw [exec_eq_runCommand, alone] at h
  cases h
  rw [exec_eq_runCommand, runCommand_of_later_events later, ← kept]
  rfl

/-- Settles O12: a reserved offset is no command's to write, and a write there meets no register. -/
theorem reservedOffsetsInert : Obligations.ReservedOffsetsInert := by
  intro s off v h
  have reserved := registerAt_reserved h
  constructor
  · rw [State.readValue_of_not_draw (by simp [reserved]), reserved, State.peek]
  · rw [land_write_window, landWrite_of_ne_cmd (by simp [reserved]), State.hostWrite_reserved reserved]

/-- Settles O13, field by field. -/
theorem statusLayout : Obligations.StatusLayout := by
  intro s
  obtain ⟨err, ldf, short, pres, busy⟩ := s.status_bits
  refine ⟨err, ?_, ldf, short, pres, by rw [busy, s.exists_busy_iff]⟩
  rw [s.status_sres]
  cases s.sres <;> rfl

/-- Settles O18: an idle block's reads are exact, and LASTDISC alone is not 0x00 at reset. -/
theorem resetReadsAsListed : Obligations.ResetReadsAsListed := by
  refine ⟨fun off => ?_, rfl, rfl, rfl⟩
  rw [State.readValue_of_not_draw (State.isDraw_of_idle rfl _), State.reset_peek]
  simp only [registerAt_eq_lastDisc_iff]

/-- Settles O56: the reset state is one that rst_n leaves. -/
theorem resetMeetsInv : Obligations.ResetMeetsInv :=
  State.reset.resetBlock_inv (by decide) true []

end Sys2Proof.Machine
end

section
/-! PROOFS. The family 20_memory.md: what a host access does to an idle and to a busy block, that it never
disturbs the running command, and the one command that sends the address registers. -/

namespace Sys2Proof.Machine

open Sys2Proof

/-! ### The registers at their offsets -/

section
variable {off : Fin 32}

theorem registerAt_two (h : off.val = 0x02) : registerAt off = .data := by
  revert off; decide

theorem registerAt_three (h : off.val = 0x03) : registerAt off = .crc := by
  revert off; decide

theorem registerAt_addr {k : Fin 8} (h : off.val = 0x08 + k.val) : registerAt off = .addr k := by
  revert off k; decide

theorem registerAt_srom {k : Fin 8} (h : off.val = 0x10 + k.val) : registerAt off = .srom k := by
  revert off k; decide

/-- The offsets that R55 lists for a command are those of the registers it may write. -/
theorem mayWrite_registerAt (c : Instr) (off : Fin 32) :
    mayWrite c (registerAt off) = decide (off.val ∈ offsetsWritten c) := by
  cases c with
  | reset | wbit | wbyte | select => rfl
  | rbit | rbyte | searchInit | searchNext => revert off; decide
  | crcClear | crcByte | crcAddr =>
    exact (by decide : ∀ u : Fin 32, (registerAt u == .crc) = decide (u.val ∈ [0x03])) off

end

/-! ### What a host access does -/

section
variable {s : State} {off : Fin 32} {v : Byte}

theorem land_read_window (s : State) (off : Fin 32) :
    land (.read (s.params.owcBase + off.val) 1) s = .next (s.hostRead off) := by
  simp [land]

theorem State.readValue_of_idle (idle : s.phase = .idle) :
    s.readValue off = s.peek (registerAt off) :=
  State.readValue_of_not_draw (State.isDraw_of_idle idle _)

theorem State.hostRead_of_idle (idle : s.phase = .idle) :
    s.hostRead off = { s with replies := (off, s.readValue off) :: s.replies } := by
  simp [State.hostRead, State.isDraw_of_idle idle]

theorem State.isDraw_of_busy {c : Instr} (busy : s.phase = .busy c) (r : Register) :
    s.isDraw r = mayWrite c r := by
  simp [State.isDraw, busy]

/-- While a command runs a write issues none (R52, R53). -/
theorem landWrite_of_busy (busy : s.busy = true) :
    landWrite off v s = .next (s.hostWrite off v) := by
  simp [landWrite, State.issued, busy]

theorem State.hostWrite_of_busy (out : s.rstN = true) (busy : s.busy = true) :
    s.hostWrite off v = s.writeBusy (registerAt off) v := by
  simp [State.hostWrite, out, busy]

theorem State.hostWrite_of_idle (out : s.rstN = true) (idle : s.phase = .idle) :
    s.hostWrite off v = s.writeIdle (registerAt off) v := by
  simp [State.hostWrite, out, State.busy_of_idle idle]

/-- An idle block decodes what is written to CMD (R52). -/
theorem State.issued_cmd (out : s.rstN = true) (idle : s.phase = .idle)
    (cmd : registerAt off = .cmd) : s.issued off v = decode? v := by
  simp [State.issued, out, State.busy_of_idle idle, cmd]

theorem landWrite_legal_cmd (out : s.rstN = true) (idle : s.phase = .idle)
    (cmd : registerAt off = .cmd) {i : Instr} (legal : decode v = .ok i) :
    landWrite off v s = exec i s := by
  simp [landWrite, State.issued_cmd out idle cmd, (decode?_eq_some_iff v i).2 legal]

theorem landWrite_illegal_cmd (out : s.rstN = true) (idle : s.phase = .idle)
    (cmd : registerAt off = .cmd) (illegal : ∀ i, decode v ≠ .ok i) :
    landWrite off v s = .next { s with err := true } := by
  have none : decode? v = none := Option.isNone_iff_eq_none.1 ((decode?_isNone_iff v).2 illegal)
  simp [landWrite, State.issued_cmd out idle cmd, none, State.hostWrite_of_idle out idle, cmd,
    State.writeIdle]

/-- A write to another register than CMD of an idle block acts on that register alone (R51). -/
theorem landWrite_register (out : s.rstN = true) (idle : s.phase = .idle) {r : Register}
    (at_r : registerAt off = r) (other : r ≠ .cmd) :
    landWrite off v s = .next (s.writeIdle r v) := by
  subst at_r
  rw [landWrite_of_ne_cmd other, State.hostWrite_of_idle out idle]

/-- No access stops the block (R200). -/
theorem land_answers (e : HostEvent) (s : State) : ∃ t, land e s = .next t := by
  obtain ⟨off, h⟩ | ⟨off, v, h⟩ | h | ⟨high, h⟩ := land_cases e s
  case inr.inl =>
    cases issued : s.issued off v with
    | none => exact ⟨s.hostWrite off v, by simp [h, landWrite, issued]⟩
    | some c => exact ⟨_, by rw [h, landWrite, issued]; exact exec_eq_runCommand c s⟩
  all_goals exact ⟨_, h⟩

theorem step_answers (s : State) : ∃ t, step s = .next t := by
  cases pending : s.pending with
  | nil => exact ⟨s.proceed, by simp [step, stepMachine, pending]⟩
  | cons p rest => exact step_of_event pending ▸ land_answers _ _

/-- An idle block meets a scheduled event as it stands (R5). -/
theorem step_of_event_idle {p : Scheduled} {rest : List Scheduled} (idle : s.phase = .idle)
    (h : s.pending = p :: rest) : step s = land p.event (s.arrive p rest) := by
  rw [step_of_event h, State.proceed_of_idle idle]

end

/-! ### What a run of actions does not see -/

/-- The same of what an action leaves. -/
def Flow.map (f : State → State) : Flow → Flow
  | .go s => .go (f s)
  | .stop s => .stop (f s)

@[simp] theorem Flow.map_go (f : State → State) (s : State) : (Flow.go s).map f = .go (f s) := rfl
@[simp] theorem Flow.map_stop (f : State → State) (s : State) : (Flow.stop s).map f = .stop (f s) := rfl

/-- New values of the fields that no action of the sequencer reads or writes; `none` leaves a field as it
is. -/
structure UnseenChange where
  rest : Option (List MicroOp) := none
  err : Option Bool := none
  replies : Option (List (Fin 32 × Byte)) := none
  readDraws : Option Nat := none

/-- s with the change u. -/
def State.change (s : State) (u : UnseenChange) : State :=
  { s with
    work := { s.work with rest := u.rest.getD s.work.rest }
    err := u.err.getD s.err
    replies := u.replies.getD s.replies
    readDraws := u.readDraws.getD s.readDraws }

/-- What of a change outlives the command: not the actions still to perform (R39). -/
def UnseenChange.afterCommand (u : UnseenChange) : UnseenChange := { u with rest := none }

theorem State.complete_change (s : State) (u : UnseenChange) :
    (s.change u).complete = s.complete.change u.afterCommand := rfl

theorem perform_change (op : MicroOp) (s : State) (u : UnseenChange) :
    perform op (s.change u) = (perform op s).map (·.change u) := by
  cases op
  case sample t => cases t <;> rfl
  case pollWait | pollSample | requireFloat | requirePresence | checkLastDevice | chooseDirection |
      conclude =>
    simp only [perform, State.pollOnce, State.requireFloat, State.report, Flow.map_go, Flow.map_stop,
      apply_ite (Flow.map _), apply_ite (fun s : State => s.change u)]
    rfl
  all_goals rfl

theorem cycles_change (op : MicroOp) (s : State) (u : UnseenChange) :
    op.cycles (s.change u) = op.cycles s := by
  cases op <;> rfl

theorem runSeq_none_change (ops : List MicroOp) (s : State) (u : UnseenChange) :
    runSeq none ops (s.change u) = (runSeq none ops s).change u.afterCommand := by
  induction ops generalizing s with
  | nil => simp only [runSeq_nil, State.complete_change]
  | cons op rest ih =>
    have done : perform op ((s.change u).spend (op.cycles s - s.work.elapsed)) =
        (perform op (s.spend (op.cycles s - s.work.elapsed))).map (·.change u) :=
      perform_change op (s.spend _) u
    rw [runSeq, runSeq, cycles_change, show (s.change u).work.elapsed = s.work.elapsed from rfl, done]
    cases perform op (s.spend (op.cycles s - s.work.elapsed)) with
    | go t => exact ih t
    | stop t => exact t.complete_change u

/-! ### A paused command -/

theorem cycles_pause (op : MicroOp) (s : State) (ops : List MicroOp) (b : Nat) :
    op.cycles (s.pause ops b) = op.cycles s := by
  cases op <;> rfl

/-- The cycles of an action that a pause has split add up. -/
theorem State.spend_pause {s : State} {c b : Nat} (ops : List MicroOp) (h : b < c - s.work.elapsed) :
    (s.pause ops b).spend (c - (s.work.elapsed + b)) =
      (s.spend (c - s.work.elapsed)).change { rest := some ops } := by
  have clock : s.clock + b + (c - (s.work.elapsed + b)) = s.clock + (c - s.work.elapsed) := by omega
  simp only [State.pause, State.spend, State.change, clock, Option.getD]

theorem runSeq_none_pause {op : MicroOp} {rest : List MicroOp} {s : State} {b : Nat}
    (h : b < op.cycles s - s.work.elapsed) :
    runSeq none (op :: rest) (s.pause (op :: rest) b) = runSeq none (op :: rest) s := by
  rw [runSeq, runSeq, cycles_pause, State.pause_work, State.spend_pause _ h, perform_change]
  cases perform op (s.spend (op.cycles s - s.work.elapsed)) with
  | go t => exact runSeq_none_change rest t _
  | stop t => exact t.complete_change _

theorem State.finish_of_busy {s : State} (busy : s.phase ≠ .idle) :
    s.finish = runSeq none s.work.rest s := by
  unfold State.finish
  split
  · contradiction
  · rfl

/-- A run that any budget has stopped, taken to its end, is the run without a budget. -/
theorem finish_runSeq {s : State} (busy : s.phase ≠ .idle) (g : Option Nat) (ops : List MicroOp) :
    (runSeq g ops s).finish = runSeq none ops s := by
  induction ops generalizing g s with
  | nil => rw [runSeq_nil, runSeq_nil, State.finish_of_idle s.complete_phase]
  | cons op rest ih =>
    have phase := (perform_frame op (s.spend (op.cycles s - s.work.elapsed))).phase
    obtain ⟨b, -, inside, e⟩ | ⟨t, g', h, e⟩ | ⟨t, h, e⟩ := runSeq_cons_cases g op rest s <;> rw [e]
    · rw [State.finish_of_busy (by exact busy)]
      exact runSeq_none_pause inside
    · rw [h] at phase
      rw [runSeq_cons_go h]
      exact ih (by rw [← Flow.state_go t, phase]; exact busy) g'
    · rw [runSeq_cons_stop h, State.finish_of_idle t.complete_phase]

/-! ### A host access of a busy block -/

/-- What a host access of a busy block may change. -/
def hostChange (err : Bool) (replies : List (Fin 32 × Byte)) (draws : Nat) : UnseenChange where
  err := some err
  replies := some replies
  readDraws := some draws

theorem State.hostWrite_eq_change {s : State} (busy : s.busy = true) (off : Fin 32) (v : Byte) :
    ∃ err, s.hostWrite off v = s.change (hostChange err s.replies s.readDraws) := by
  cases out : s.rstN with
  | false => exact ⟨s.err, State.hostWrite_of_reset out off v⟩
  | true =>
    rw [State.hostWrite_of_busy out busy]
    cases registerAt off with
    | cmd | data | crc | addr => exact ⟨true, rfl⟩
    | status => exact ⟨_, rfl⟩
    | lastDisc | srom | reserved => exact ⟨s.err, rfl⟩

/-- While a command runs a host access changes ERR, the record of replies and the draw counter at most
(R53, R54). -/
theorem eq_change_of_busy_access {e : HostEvent} {s t : State} (busy : s.busy = true)
    (access : ∀ high, e ≠ .rstN high) (h : land e s = .next t) :
    ∃ err replies draws, t = s.change (hostChange err replies draws) := by
  cases e with
  | rstN high => exact absurd rfl (access high)
  | read a w =>
    simp only [land] at h
    split at h <;> cases h
    · exact ⟨_, _, _, rfl⟩
    · exact ⟨s.err, s.replies, s.readDraws, rfl⟩
  | write a w v =>
    simp only [land, landWrite_of_busy busy] at h
    split at h <;> cases h
    · next off _ => exact (s.hostWrite_eq_change busy off v).imp fun _ e => ⟨_, _, e⟩
    · exact ⟨s.err, s.replies, s.readDraws, rfl⟩

theorem State.finish_change {s : State} (busy : s.busy = true) (u : UnseenChange)
    (rest : u.rest = none) : (s.change u).finish = s.finish.change u.afterCommand := by
  have running := s.busy_eq_true_iff.1 busy
  rw [State.finish_of_busy running, State.finish_of_busy (s := s.change u) running,
    show (s.change u).work.rest = s.work.rest by simp [State.change, rest]]
  exact runSeq_none_change _ s u

/-! ### Waveforms -/

/-- LSTATE after one entry of the line trace (R12). -/
def LineAction.lineAfter (l : LineState) : LineAction → LineState
  | .low => .driveLow
  | .high => .driveHigh
  | .release => .released
  | .wait _ | .sample _ => l

/-- s after the block has put the waveform w on the line: w is on the trace and its waits have passed. -/
def State.play (s : State) (w : List LineAction) : State :=
  { s with
    line := w.foldl LineAction.lineAfter s.line
    log := w.reverse ++ s.log
    clock := s.clock + lineTime w * s.params.ticksPerUs }

theorem lineTime_append (w x : List LineAction) : lineTime (w ++ x) = lineTime w + lineTime x := by
  induction w with
  | nil => simp [lineTime]
  | cons a w ih => cases a <;> simp [lineTime, ih, Nat.add_assoc]

@[simp] theorem State.play_nil (s : State) : s.play [] = s := by
  simp [State.play, lineTime]

theorem State.play_play (s : State) (w x : List LineAction) : (s.play w).play x = s.play (w ++ x) := by
  simp [State.play, lineTime_append, Nat.add_mul, Nat.add_assoc]


@[simp] theorem State.play_byteOf (s : State) (w : List LineAction) (v : ByteSource) :
    (s.play w).byteOf v = s.byteOf v := by
  cases v <;> rfl

@[simp] theorem State.play_bitOf (s : State) (w : List LineAction) (b : BitSource) :
    (s.play w).bitOf b = s.bitOf b := by
  cases b with
  | imm | dir => rfl
  | byteBit v i => simp [State.bitOf]

/-- What an action puts on the line, if it is nothing but one entry of the trace and that entry's time. -/
def MicroOp.entry (s : State) : MicroOp → Option LineAction
  | .lineLow => some .low
  | .lineHigh => some .high
  | .lineRelease => some .release
  | .wait us => some (.wait us)
  | .slotLow b => some (.wait (slotLowTime (s.bitOf b)))
  | .slotRest b => some (.wait (slotRestTime (s.bitOf b)))
  | .sample _ | .pollWait | .pollSample | .requireFloat _ | .recordPresence | .requirePresence => none
  | .storeData | .checkLastDevice | .atPosition _ | .chooseDirection | .conclude | .searchInit => none
  | .crcClear | .crcByte | .crcAddr _ => none

theorem runSeq_none_entry {op : MicroOp} {rest : List MicroOp} {s : State} {a : LineAction}
    (fresh : s.work.elapsed = 0) (entry : op.entry s = some a) :
    runSeq none (op :: rest) s = runSeq none rest (s.play [a]) := by
  have work : { s.work with elapsed := 0 } = s.work := by rw [← fresh]
  have cycles : op.cycles s = lineTime [a] * s.params.ticksPerUs := by
    cases op <;> cases entry <;> simp [MicroOp.cycles, lineTime]
  have spent : s.spend (op.cycles s) = { s with clock := s.clock + op.cycles s } := by
    simp only [State.spend, work]
  apply runSeq_cons_go
  rw [fresh, Nat.sub_zero, spent, cycles]
  cases op <;> cases entry <;> rfl

theorem entry_play (s : State) (w : List LineAction) :
    MicroOp.entry (s.play w) = MicroOp.entry s := by
  funext op
  cases op <;> simp [MicroOp.entry]

/-- From s the actions put the waveform w on the line and do nothing else. -/
def State.Plays (s : State) (ops : List MicroOp) (w : List LineAction) : Prop :=
  ops.map (MicroOp.entry s) = w.map some

theorem runSeq_none_plays {ops : List MicroOp} {w : List LineAction} {s : State}
    (fresh : s.work.elapsed = 0) (plays : s.Plays ops w) :
    runSeq none ops s = (s.play w).complete := by
  unfold State.Plays at plays
  induction ops generalizing s w with
  | nil =>
    obtain rfl : w = [] := by simpa using plays
    simp
  | cons op ops ih =>
    obtain ⟨a, w, rfl, entry, plays⟩ := List.map_eq_cons_iff.1 plays.symm
    rw [runSeq_none_entry fresh entry.symm, ih (s := s.play [a]) fresh (by rw [entry_play, plays]),
      State.play_play, List.singleton_append]

theorem State.Plays.append {s : State} {a b : List MicroOp} {w x : List LineAction}
    (ha : s.Plays a w) (hb : s.Plays b x) : s.Plays (a ++ b) (w ++ x) := by
  simp only [State.Plays, List.map_append] at *
  rw [ha, hb]

theorem State.Plays.flatMap {s : State} {α : Type} (xs : List α) {f : α → List MicroOp}
    {g : α → List LineAction} (h : ∀ x, s.Plays (f x) (g x)) :
    s.Plays (xs.flatMap f) (xs.flatMap g) := by
  induction xs with
  | nil => rfl
  | cons x xs ih => exact (h x).append ih

theorem plays_writeBitWire (s : State) (b : BitSource) :
    s.Plays (writeBitWire b) (writeSlot (s.bitOf b)) := by
  cases h : s.bitOf b <;>
    simp [State.Plays, writeBitWire, MicroOp.entry, writeSlot, slotLowTime, slotRestTime, h]

theorem plays_writeByteWire (s : State) (v : ByteSource) :
    s.Plays (writeByteWire v false) (writeByteSlots (s.byteOf v)) := by
  rw [writeByteWire, if_neg (by decide), List.append_nil]
  exact .flatMap byteBits fun i => plays_writeBitWire s (.byteBit v i)

theorem toList_eq_map_addressBytes (a : Bytes8) : a.toList = addressBytes.map (fun k => a[k]) := by
  apply List.ext_getElem
  · simp [addressBytes]
  · intro k hk _
    have : k < 8 := by simpa using hk
    interval_cases k <;> rfl

/-- SELECT sends MATCH_ROM_CMD and the bytes of ADDR (R125). -/
theorem plays_select (s : State) :
    s.Plays (actionsOf .select) ((s.params.matchRomCmd :: s.addr.toList).flatMap writeByteSlots) := by
  rw [List.flatMap_cons, toList_eq_map_addressBytes, List.flatMap_map]
  exact (plays_writeByteWire s .matchRomCmd).append
    (.flatMap addressBytes fun k => plays_writeByteWire s (.addr k))

/-- The line time of write slots: 65 microseconds each, and 5 more for a 0 (R111). -/
theorem lineTime_writeSlots (v : Byte) (is : List Nat) :
    lineTime (is.flatMap fun i => writeSlot (v.getLsbD i)) =
      65 * is.length + 5 * (is.filter fun i => !v.getLsbD i).length := by
  induction is with
  | nil => rfl
  | cons i is ih =>
    rw [List.flatMap_cons, lineTime_append, ih]
    cases h : v.getLsbD i <;> simp [h, writeSlot, lineTime] <;> omega

/-- R113's derived duration of a byte. -/
theorem lineTime_writeByteSlots (v : Byte) : lineTime (writeByteSlots v) = 520 + 5 * zeroBits v :=
  lineTime_writeSlots v _

theorem lineTime_writeBytes (bytes : List Byte) :
    lineTime (bytes.flatMap writeByteSlots) = (bytes.map fun v => 520 + 5 * zeroBits v).sum := by
  induction bytes with
  | nil => rfl
  | cons v bytes ih =>
    rw [List.flatMap_cons, lineTime_append, ih, lineTime_writeByteSlots, List.map_cons, List.sum_cons]

theorem lineAfter_writeSlot (l : LineState) (b : Bool) :
    (writeSlot b).foldl LineAction.lineAfter l = .released := by
  cases b <;> rfl

theorem lineAfter_writeByteSlots (l : LineState) (v : Byte) :
    (writeByteSlots v).foldl LineAction.lineAfter l = .released := by
  simp [writeByteSlots, lineAfter_writeSlot]

theorem lineAfter_writeBytes (l : LineState) (v : Byte) (bytes : List Byte) :
    ((v :: bytes).flatMap writeByteSlots).foldl LineAction.lineAfter l = .released := by
  induction bytes generalizing l v with
  | nil => simp [lineAfter_writeByteSlots]
  | cons u bytes ih => rw [List.flatMap_cons, List.foldl_append, ih]

/-! ### The obligations -/

/-- Settles O52: every pause leaves the run that finishing takes up again. -/
theorem pausedCommandResumes : Obligations.PausedCommandResumes := by
  intro i s t h
  rw [exec_eq_runCommand] at h
  cases h
  rw [exec_eq_runCommand, runCommand, runCommand, finish_runSeq (by simp)]
  exact congrArg _ (runSeq_reschedule none (actionsOf i) (s.accept i) [])

/-- Settles O53: the access makes a change that the running command does not see. -/
theorem hostAccessDoesNotDisturbCommand : Obligations.HostAccessDoesNotDisturbCommand := by
  intro s t e busy _ access h
  obtain ⟨err, replies, draws, rfl⟩ := eq_change_of_busy_access busy access h
  refine ⟨?_, busy, rfl, rfl, rfl, rfl⟩
  rw [State.finish_change busy _ rfl]
  rfl

/-- Settles O25: SELECT's actions are a waveform and nothing else. -/
theorem selectWritesAddress : Obligations.SelectWritesAddress := by
  intro s none
  rw [exec_eq_runCommand, runCommand_of_no_events none, runSeq_none_plays rfl (plays_select _)]
  simp only [State.play, State.complete, State.accept_line, State.accept_log, State.accept_clock,
    State.accept_params, State.accept_addr, lineTime_writeBytes, lineAfter_writeBytes]
  rfl

/-- Settles O8: CMD decodes, and every other write acts on its own register. -/
theorem idleWriteEffects : Obligations.IdleWriteEffects := by
  intro s v off idle out o
  have lands : o = landWrite off v s := land_write_window s off v
  rw [lands]
  refine ⟨fun at0 i legal => landWrite_legal_cmd out idle (registerAt_zero at0) legal,
    fun at0 illegal => landWrite_illegal_cmd out idle (registerAt_zero at0) illegal,
    fun at1 => landWrite_register out idle (registerAt_one at1) (by decide),
    fun at2 => landWrite_register out idle (registerAt_two at2) (by decide),
    fun at3 => landWrite_register out idle (registerAt_three at3) (by decide),
    fun k at_k => landWrite_register out idle (registerAt_addr at_k) nofun,
    fun readOnly => ?_⟩
  obtain e | e | ⟨k, e⟩ := registerAt_readOnly readOnly <;> exact landWrite_register out idle e nofun

/-- Settles O9: a busy block refuses the writes of R53 and ignores the others but STATUS. -/
theorem busyWriteRefused : Obligations.BusyWriteRefused := by
  intro s c v off phase out o
  have busy : s.busy = true := s.exists_busy_iff.2 ⟨c, phase⟩
  have lands : o = .next (s.writeBusy (registerAt off) v) := by
    rw [← State.hostWrite_of_busy out busy, ← landWrite_of_busy busy]
    exact land_write_window s off v
  rw [lands]
  refine ⟨?_, fun at1 => by rw [registerAt_one at1]; rfl, fun readOnly => ?_⟩
  · rintro (at0 | operand)
    · rw [registerAt_zero at0]; rfl
    · obtain e | e | ⟨k, e⟩ := registerAt_operand operand <;> rw [e] <;> rfl
  · obtain e | e | ⟨k, e⟩ := registerAt_readOnly readOnly <;> rw [e] <;> rfl

/-- Settles O10: an idle block's reads are exact and leave only their reply. -/
theorem idleReadReturnsRegister : Obligations.IdleReadReturnsRegister := by
  intro s off idle
  rw [land_read_window, State.hostRead_of_idle idle, State.readValue_of_idle idle]
  refine ⟨rfl, fun h => by rw [registerAt_zero h]; rfl, fun h => by rw [registerAt_one h]; rfl,
    fun h => by rw [registerAt_two h]; rfl, fun h => by rw [registerAt_three h]; rfl,
    fun h => by rw [(registerAt_eq_lastDisc_iff off).2 h]; rfl,
    fun k h => by rw [registerAt_addr h]; rfl, fun k h => by rw [registerAt_srom h]; rfl,
    fun h => by rw [registerAt_reserved h]; rfl⟩

/-- Settles O11: a read is a draw only at an offset the command may write, and CMD and STATUS are none. -/
theorem busyReadExactUnlessWritten : Obligations.BusyReadExactUnlessWritten := by
  intro s c off busy
  have exact_read (h : off.val ∉ offsetsWritten c) : s.readValue off = s.peek (registerAt off) :=
    State.readValue_of_not_draw (by
      rw [State.isDraw_of_busy busy, mayWrite_registerAt, decide_eq_false h])
  refine ⟨s.readValue off, (s.hostRead off).readDraws, land_read_window s off, exact_read,
    fun at0 => ?_, fun at1 => ?_⟩
  · rw [exact_read (by cases c <;> simp [offsetsWritten, at0]), registerAt_zero at0, State.peek]
  · rw [exact_read (by cases c <;> simp [offsetsWritten, at1]), registerAt_one at1, State.peek]

/-- Settles O14: an access outside the interface selects no register, and nothing that lands stops. -/
theorem outsideAccessHasNoEffect : Obligations.OutsideAccessHasNoEffect := by
  refine ⟨fun s p rest a w pending access outside => ?_, step_answers⟩
  obtain ⟨-, -, params, -⟩ := s.arrive_proceed_same p rest
  have none : (s.proceed.arrive p rest).selected a w = none :=
    State.selected_eq_none (params.symm ▸ outside)
  rw [step_of_event pending]
  obtain e | ⟨v, e⟩ := access <;> simp only [e, land, none] <;> rfl

/-- Settles O5: the idle block meets the write as it stands and decodes it. -/
theorem stepRunsIssuedCommand : Obligations.StepRunsIssuedCommand := by
  intro s p rest v i idle out pending event legal
  rw [step_of_event_idle idle pending, event]
  exact (idleWriteEffects (s.arrive p rest) v 0 idle out).1 rfl i legal

/-- Settles O7: the idle block meets the write as it stands, and no command has its byte. -/
theorem illegalCommandOnlySetsErr : Obligations.IllegalCommandOnlySetsErr := by
  intro s p rest v idle out pending event illegal
  rw [step_of_event_idle idle pending, event]
  exact (idleWriteEffects (s.arrive p rest) v 0 idle out).2.1 rfl illegal

end Sys2Proof.Machine
end

section
/-! PROOFS. The family 30_encoding.md: what the decoder can answer, that it and the encoder invert each
other on the twenty commands, and what the CRC8 pseudo-instruction computes. -/

namespace Sys2Proof.Machine

open Sys2Proof Sys2Proof.Laws

/-! ### The fields of a CMD byte -/

theorem toNat_opField (v : Byte) : (opField v).toNat = v.toNat / 16 := by
  have := v.isLt
  simp only [opField, BitVec.extractLsb'_toNat, Nat.shiftRight_eq_div_pow]
  omega

theorem toNat_modField (v : Byte) : (modField v).toNat = v.toNat % 16 := by
  simp [modField, BitVec.extractLsb'_toNat]

/-- A byte is its two fields (R70). -/
theorem eq_of_fields {v w : Byte} (op : opField v = opField w) (mod : modField v = modField w) :
    v = w := by
  have op := congrArg BitVec.toNat op
  have mod := congrArg BitVec.toNat mod
  rw [toNat_opField, toNat_opField] at op
  rw [toNat_modField, toNat_modField] at mod
  exact BitVec.eq_of_toNat_eq (by omega)

/-- The one-bit operand field is bit 0 of MOD (R72). -/
theorem getLsbD_modField_zero (v : Byte) : (modField v).getLsbD 0 = v.getLsbD 0 := by
  simp [modField]

/-- The count field of CRC_ADDR is MOD's low three bits (R72). -/
theorem toNat_countField (v : Byte) : (v.extractLsb' 0 3).toNat = (modField v).toNat % 8 := by
  simp only [toNat_modField, BitVec.extractLsb'_toNat, Nat.shiftRight_zero]
  omega

/-! ### The encoder -/

theorem wellFormed_crcAddr_iff (n : Nat) : (Instr.crcAddr n).wellFormed = true ↔ 1 ≤ n ∧ n ≤ 8 := by
  simp [Instr.wellFormed]

theorem opField_encode {i : Instr} (wf : i.wellFormed = true) :
    opField (encode i) = OpField.opOf i := by
  cases i with
  | reset => exact OpField.reset wf
  | wbit b => exact OpField.wbit b wf
  | rbit => exact OpField.rbit wf
  | wbyte p => exact OpField.wbyte p wf
  | rbyte => exact OpField.rbyte wf
  | select => exact OpField.select wf
  | searchInit => exact OpField.searchInit wf
  | searchNext => exact OpField.searchNext wf
  | crcClear => exact OpField.crcClear wf
  | crcByte => exact OpField.crcByte wf
  | crcAddr n => exact OpField.crcAddr n wf

/-- The OPs that R71 has rows for. -/
theorem opOf_bounds (i : Instr) : 0x1 ≤ (OpField.opOf i).toNat ∧ (OpField.opOf i).toNat ≤ 0xB := by
  cases i <;> simp [OpField.opOf]

/-- The operand field of WBIT and WBYTE (R72). -/
theorem modField_encode_bit (b : Bool) :
    modField (encode (.wbit b)) = (BitVec.ofBool b).setWidth 4 ∧
      modField (encode (.wbyte b)) = (BitVec.ofBool b).setWidth 4 := by
  cases b <;> decide

/-- The operand field of CRC_ADDR holds the count less one (R72). -/
theorem modField_encode_crcAddr {k : Nat} (h : k < 8) :
    modField (encode (.crcAddr (k + 1))) = BitVec.ofNat 4 k := by
  interval_cases k <;> decide

/-! ### Masks of MOD -/

theorem eq_zero_of_and_F {m : BitVec 4} (h : m &&& 0xF = 0) : m = 0 := by
  revert m; decide

theorem eq_bit_of_and_E {m : BitVec 4} (h : m &&& 0xE = 0) :
    m = (BitVec.ofBool (m.getLsbD 0)).setWidth 4 := by
  revert m; decide

theorem eq_low_of_and_8 {m : BitVec 4} (h : m &&& 0x8 = 0) : m = BitVec.ofNat 4 (m.toNat % 8) := by
  revert m; decide

/-! ### The decoder -/

/-- What the decoder can answer to byte v. -/
inductive Decoded (v : Byte) : Except DecodeError Instr → Prop
  /-- the command whose encoding v is (R71, R72) -/
  | command (i : Instr) : i.wellFormed = true → encode i = v → Decoded v (.ok i)
  /-- OP is one that no row of R71 has (R75) -/
  | reservedOp : v.toNat < 0x10 ∨ 0xC0 ≤ v.toNat → Decoded v (.error (.reservedOp (opField v)))
  /-- OP has a row, and MOD a 1 where the row requires 0 (R73) -/
  | nonzeroMod : 0x10 ≤ v.toNat → v.toNat < 0xC0 →
      Decoded v (.error (.nonzeroMod (opField v) (modField v)))

/-- One row of R71: its OP is v's, and under its mask MOD holds the operand of i and nothing else. -/
theorem withMod_decoded {v : Byte} {fixed : BitVec 4} {i : Instr} (wf : i.wellFormed = true)
    (op : (opField v).toNat = (OpField.opOf i).toNat)
    (mod : modField v &&& fixed = 0 → modField v = modField (encode i)) :
    Decoded v (withMod v fixed i) := by
  unfold withMod
  split
  · next zero =>
    have sameOp : opField v = opField (encode i) := by
      rw [opField_encode wf]; exact BitVec.eq_of_toNat_eq op
    exact .command i wf (eq_of_fields sameOp (mod zero)).symm
  · have bounds := opOf_bounds i
    rw [← op, toNat_opField] at bounds
    exact .nonzeroMod (by omega) (by omega)

/-- Under the masks of WBIT and WBYTE MOD is bit 0 of the byte. -/
theorem modField_eq_bit {v : Byte} (h : modField v &&& 0xE = 0) :
    modField v = (BitVec.ofBool (v.getLsbD 0)).setWidth 4 := by
  rw [← getLsbD_modField_zero]; exact eq_bit_of_and_E h

/-- Eight rows of R71 fix all of MOD; those of WBIT, WBYTE and CRC_ADDR leave the operand's bits. -/
theorem decode_decoded (v : Byte) : Decoded v (decode v) := by
  unfold decode
  split
  case h_2 op => -- WBIT
    exact withMod_decoded rfl op fun h => (modField_eq_bit h).trans (modField_encode_bit _).1.symm
  case h_4 op => -- WBYTE
    exact withMod_decoded rfl op fun h => (modField_eq_bit h).trans (modField_encode_bit _).2.symm
  case h_11 op => -- CRC_ADDR
    have count : (v.extractLsb' 0 3).toNat < 8 := (v.extractLsb' 0 3).isLt
    refine withMod_decoded ((wellFormed_crcAddr_iff _).2 (by omega)) op fun h => ?_
    rw [modField_encode_crcAddr count, toNat_countField]
    exact eq_low_of_and_8 h
  case h_12 => -- no row
    simp only [toNat_opField, imp_false] at *
    exact .reservedOp (by omega)
  all_goals exact withMod_decoded rfl ‹_› fun h => eq_zero_of_and_F h

theorem decode_encode {i : Instr} (wf : i.wellFormed = true) : decode (encode i) = .ok i := by
  cases i with
  | wbit b | wbyte b => cases b <;> rfl
  | crcAddr n =>
    obtain ⟨one_le, le_eight⟩ := (wellFormed_crcAddr_iff n).1 wf
    interval_cases n <;> rfl
  | _ => rfl

/-- Decoding and encoding are inverse to each other (R71, R72). -/
theorem decode_eq_ok_iff (v : Byte) (i : Instr) :
    decode v = .ok i ↔ i.wellFormed = true ∧ encode i = v := by
  constructor
  · intro h
    have decoded := decode_decoded v
    rw [h] at decoded
    cases decoded with
    | command _ wf enc => exact ⟨wf, enc⟩
  · rintro ⟨wf, rfl⟩
    exact decode_encode wf

/-! ### The twenty commands -/

/-- The commands, in the order of R71. -/
def commands : List Instr :=
  [.reset, .wbit false, .wbit true, .rbit, .wbyte false, .wbyte true, .rbyte, .select, .searchInit,
    .searchNext, .crcClear, .crcByte, .crcAddr 1, .crcAddr 2, .crcAddr 3, .crcAddr 4, .crcAddr 5,
    .crcAddr 6, .crcAddr 7, .crcAddr 8]

theorem mem_commands_iff (i : Instr) : i ∈ commands ↔ i.wellFormed = true := by
  refine ⟨fun mem => (by decide : ∀ c ∈ commands, c.wellFormed = true) i mem, fun wf => ?_⟩
  cases i with
  | wbit b | wbyte b => cases b <;> decide
  | crcAddr n =>
    obtain ⟨one_le, le_eight⟩ := (wellFormed_crcAddr_iff n).1 wf
    interval_cases n <;> decide
  | _ => decide

/-- The legal bytes are the encodings of the twenty commands (R71, R76). -/
theorem exists_decode_iff (v : Byte) : (∃ i, decode v = .ok i) ↔ v ∈ commands.map encode := by
  simp only [decode_eq_ok_iff, ← mem_commands_iff, List.mem_map]

/-! ### Lines of a host program -/

theorem runLines_append {a b : List HostLine} {s t : State} (h : runLines a s = .next t) :
    runLines (a ++ b) s = runLines b t := by
  induction a generalizing s with
  | nil => cases h; rfl
  | cons l a ih =>
    rw [List.cons_append, runLines]
    rw [runLines] at h
    cases step : runLine l s with
    | next u => rw [step] at h; exact ih h
    | fault f => rw [step] at h; cases h
    | refused r => rw [step] at h; cases h

/-- `DO m`, when the command has run to its end by the time `WAIT` reads STATUS (R78). -/
theorem runLines_doCommand {c : Instr} {s t : State} (out : s.rstN = true) (idle : s.phase = .idle)
    (wf : c.wellFormed = true) (run : exec c s = .next t) (ended : t.phase = .idle) :
    runLines (doCommand c) s = .next (t.hostRead 0x01) := by
  have issued : runLine (.wr 0x00 (encode c)) s = .next t :=
    (landWrite_legal_cmd out idle rfl (decode_encode wf)).trans run
  simp only [doCommand, issue, List.singleton_append, runLines, issued]
  simp only [runLine, State.finish_of_idle ended]

/-- `LD v` (R78). -/
theorem runLines_ld {s : State} (out : s.rstN = true) (idle : s.phase = .idle) (v : Byte) :
    runLines (ld v) s = .next { s with data := v } := by
  have written : runLine (.wr 0x02 v) s = .next { s with data := v } :=
    landWrite_register (r := .data) out idle rfl nofun
  simp only [ld, runLines, written]

/-! ### The CRC8 pseudo-instruction -/

/-- CRC_CLEAR run without interruption (R150). -/
theorem exec_crcClear {s : State} (none : s.pending = []) :
    exec .crcClear s = .next { s with
      cmd := 0x90, phase := .idle, work := Work.clear, crc := 0x00, clock := s.clock + 1 } := by
  rw [exec_eq_runCommand, runCommand_of_no_events none]
  rfl

/-- CRC_BYTE run without interruption (R151). -/
theorem exec_crcByte {s : State} (none : s.pending = []) :
    exec .crcByte s = .next { s with
      cmd := 0xA0, phase := .idle, work := Work.clear
      crc := crc8Step s.crc s.data, clock := s.clock + 8 } := by
  rw [exec_eq_runCommand, runCommand_of_no_events none]
  rfl

/-- t is an idle block whose accumulator is c, and in which ERR, ADDR and the line trace are those of s. -/
structure Accumulated (s : State) (c : Byte) (t : State) : Prop where
  crc : t.crc = c
  phase : t.phase = .idle
  rstN : t.rstN = true
  pending : t.pending = []
  err : t.err = s.err
  addr : t.addr = s.addr
  log : t.log = s.log

/-- `LD b` and `DO CRC_BYTE` fold one byte. -/
theorem Accumulated.foldByte {s t : State} {c : Byte} (acc : Accumulated s c t) (b : Byte) :
    ∃ u, runLines (ld b ++ doCommand .crcByte) t = .next u ∧ Accumulated s (crc8Step c b) u := by
  obtain ⟨rfl, idle, out, none, err, addr, log⟩ := acc
  refine ⟨_, (runLines_append (runLines_ld out idle b)).trans
    (runLines_doCommand (s := { t with data := b }) out idle rfl (exec_crcByte none) rfl), ?_⟩
  exact ⟨rfl, rfl, out, none, err, addr, log⟩

theorem Accumulated.foldBytes {s t : State} {c : Byte} (acc : Accumulated s c t)
    (bytes : List Byte) :
    ∃ u, runLines (bytes.flatMap fun b => ld b ++ doCommand .crcByte) t = .next u ∧
      Accumulated s (bytes.foldl crc8Step c) u := by
  induction bytes generalizing t c with
  | nil => exact ⟨t, rfl, acc⟩
  | cons b bytes ih =>
    obtain ⟨u, first, acc⟩ := acc.foldByte b
    rw [List.flatMap_cons, runLines_append first]
    exact ih acc

/-- `DO CRC_CLEAR` starts the fold from the seed. -/
theorem accumulated_crcClear {s : State} (none : s.pending = []) (idle : s.phase = .idle)
    (out : s.rstN = true) :
    ∃ t, runLines (doCommand .crcClear) s = .next t ∧ Accumulated s 0x00 t :=
  ⟨_, runLines_doCommand out idle rfl (exec_crcClear none) rfl, rfl, rfl, out, none, rfl, rfl, rfl⟩

/-! ### The obligations -/

/-- Settles O1: row by row, the encoder's byte decodes to its command. -/
theorem decodeOfEncode : Obligations.DecodeOfEncode :=
  fun _ wf => decode_encode wf

/-- Settles O3: the decoder's three answers, the byte's range telling the two rejections apart. -/
theorem illegalBytesRejectedByName : Obligations.IllegalBytesRejectedByName := by
  intro v
  have decoded := decode_decoded v
  generalize decode v = answer at decoded ⊢
  cases decoded with
  | command i wf enc =>
    have range := congrArg BitVec.toNat (opField_encode wf)
    rw [enc, toNat_opField] at range
    have bounds := opOf_bounds i
    exact ⟨fun outside => by omega, fun _ _ unused => absurd enc (unused i wf)⟩
  | reservedOp outside => exact ⟨fun _ => rfl, fun low high => by omega⟩
  | nonzeroMod low high => exact ⟨fun outside => by omega, fun _ _ _ => rfl⟩

/-- Settles O32: CRC_CLEAR gives the seed, and each byte's lines are one step of the fold. -/
theorem crcStreamComputesCrc8 : Obligations.CrcStreamComputesCrc8 := by
  intro s bytes none idle out
  obtain ⟨t, cleared, seed⟩ := accumulated_crcClear none idle out
  obtain ⟨u, folded, crc, phase, -, -, err, addr, log⟩ := seed.foldBytes bytes
  refine ⟨u, (runLines_append cleared).trans folded, ?_, phase, err, addr, congrArg List.reverse log⟩
  rw [crc, crc8, List.take_length]

/-- Settles O2: the bytes are the twenty commands' encodings. -/
theorem legalBytesAreTheTwenty : Obligations.LegalBytesAreTheTwenty :=
  fun v => ⟨exists_decode_iff v, fun i h => ((decode_eq_ok_iff v i).1 h).symm⟩

/-- Settles O4: each word is the encoding of its command. -/
theorem specWordsDecode : Obligations.SpecWordsDecode :=
  ⟨decode_encode (i := .reset) rfl, decode_encode (i := .wbit true) rfl,
    decode_encode (i := .wbyte false) rfl, decode_encode (i := .select) rfl,
    decode_encode (i := .searchNext) rfl, decode_encode (i := .crcAddr 7) rfl⟩

end Sys2Proof.Machine
end

section
/-! PROOFS. The family 40_busline.md: what the wire procedures put on the line and take from it, the six
bus commands, and the time and the first line action of every command. -/

namespace Sys2Proof.Machine

open Sys2Proof

/-- With nothing scheduled a command is the uninterrupted run of its actions. -/
theorem exec_of_no_events {s : State} (none : s.pending = []) (i : Instr) :
    exec i s = .next (runSeq Option.none (actionsOf i) (s.accept i)) := by
  rw [exec_eq_runCommand, runCommand_of_no_events none]

/-! ### An exchange with the bus -/

/-- s after the block has put the waveform w on the line, taken n samples, and come to the variables
`work`. -/
def State.exchange (s : State) (w : List LineAction) (n : Nat) (work : Work) : State :=
  { (s.consume n).play w with work := work }

section
variable (s : State) (w : List LineAction) (n : Nat) (k : Work)

@[simp] theorem State.exchange_work : (s.exchange w n k).work = k := rfl

@[simp] theorem State.exchange_answer (j : Nat) : (s.exchange w n k).answer j = s.answer (n + j) :=
  s.answer_consume n j

@[simp] theorem State.exchange_floatsAt : (s.exchange w 0 k).floatsAt = s.floatsAt := by
  simp only [State.floatsAt, funext (s.exchange_answer w 0 k), Nat.zero_add]

@[simp] theorem State.exchange_nextAnswer : (s.exchange w n k).nextAnswer = s.answer n := by
  rw [← State.answer_zero, State.exchange_answer, Nat.add_zero]

theorem State.play_eq_exchange : s.play w = s.exchange w 0 s.work := by
  simp [State.exchange, State.play]

@[simp] theorem State.exchange_nil : s.exchange [] 0 s.work = s := by
  rw [← State.play_eq_exchange, State.play_nil]

theorem State.exchange_exchange (x : List LineAction) (m : Nat) (l : Work) :
    (s.exchange w n k).exchange x m l = s.exchange (w ++ x) (n + m) l := by
  simp only [State.exchange, ← State.consume_consume, ← State.play_play]
  rfl

theorem State.takeSample_eq_exchange :
    { s.takeSample with work := k } = s.exchange [.sample s.nextAnswer] 1 k := by
  simp [State.takeSample_eq_consume, State.exchange, State.play, lineTime, LineAction.lineAfter]

end

/-- s with the outcome of a bus reset in PRES and SHORT (R110). -/
def State.setPresence (s : State) (pres short : Bool) : State := { s with pres := pres, short := short }

section
variable (s : State) (pres short : Bool)

@[simp] theorem State.setPresence_nextAnswer :
    (s.setPresence pres short).nextAnswer = s.nextAnswer := rfl

theorem State.setPresence_exchange (w : List LineAction) (n : Nat) (k : Work) :
    (s.setPresence pres short).exchange w n k = (s.exchange w n k).setPresence pres short := rfl

@[simp] theorem State.setPresence_setPresence (pres' short' : Bool) :
    (s.setPresence pres short).setPresence pres' short' = s.setPresence pres' short' := rfl

end

@[simp] theorem Work.store_elapsed (w : Work) (t : SampleTarget) (level : Bool) :
    (w.store t level).elapsed = w.elapsed := by
  cases t <;> rfl

/-! ### Actions that lead from one state to another -/

/-- Performed without interruption from s, the actions come to t and the command goes on. -/
def Leads (ops : List MicroOp) (s t : State) : Prop :=
  ∀ rest, runSeq none (ops ++ rest) s = runSeq none rest t

theorem Leads.refl (s : State) : Leads [] s s := fun _ => rfl

/-- The actions of b follow those of a, no time of the first of them being spent yet. -/
theorem Leads.append {a b : List MicroOp} {s t u : State} (first : Leads a s t)
    (fresh : t.work.elapsed = 0) (second : t.work.elapsed = 0 → Leads b t u) : Leads (a ++ b) s u :=
  fun rest => by rw [List.append_assoc, first, second fresh]

/-- Two exchanges in a row are one. -/
theorem Leads.extend {a b : List MicroOp} {s : State} {w x : List LineAction} {n m : Nat} {k l : Work}
    (first : Leads a s (s.exchange w n k)) (fresh : k.elapsed = 0)
    (second : (s.exchange w n k).work.elapsed = 0 →
      Leads b (s.exchange w n k) ((s.exchange w n k).exchange x m l)) :
    Leads (a ++ b) s (s.exchange (w ++ x) (n + m) l) :=
  s.exchange_exchange w n k x m l ▸ first.append fresh second

theorem Leads.runSeq_eq {ops : List MicroOp} {s t : State} (h : Leads ops s t) :
    runSeq none ops s = t.complete := by
  simpa using h []

section
variable {s : State} (fresh : s.work.elapsed = 0)
include fresh

theorem State.spend_of_fresh (c : Nat) : s.spend c = { s with clock := s.clock + c } := by
  have work : { s.work with elapsed := 0 } = s.work := by rw [← fresh]
  simp only [State.spend, work]

theorem leads_of_perform {op : MicroOp} {t : State} (h : perform op (s.spend (op.cycles s)) = .go t) :
    Leads [op] s t := fun rest =>
  runSeq_cons_go (by rwa [fresh, Nat.sub_zero])

/-- An action that takes no time (R100). -/
theorem leads_of_instant {op : MicroOp} {t : State} (instant : op.cycles s = 0)
    (h : perform op s = .go t) : Leads [op] s t :=
  leads_of_perform fresh (by rwa [instant, State.spend_of_fresh fresh])

theorem leads_of_plays {ops : List MicroOp} {w : List LineAction} (plays : s.Plays ops w) :
    Leads ops s (s.exchange w 0 s.work) := by
  unfold State.Plays at plays
  induction ops generalizing s w with
  | nil =>
    obtain rfl : w = [] := by simpa using plays
    simpa using Leads.refl s
  | cons op ops ih =>
    obtain ⟨a, w, rfl, entry, plays⟩ := List.map_eq_cons_iff.1 plays.symm
    have first : Leads [op] s (s.play [a]) := fun rest => runSeq_none_entry fresh entry.symm
    rw [State.play_eq_exchange] at first
    have later := first.extend fresh fun fresh =>
      ih fresh (by rw [← State.play_eq_exchange, entry_play, plays])
    simpa using later

theorem leads_sample (t : SampleTarget) :
    Leads [.sample t] s (s.exchange [.sample s.nextAnswer] 1 (s.work.store t s.nextAnswer)) := by
  rw [← State.takeSample_eq_exchange]
  exact leads_of_instant fresh rfl rfl

/-- A read slot (R112). -/
theorem leads_readBitWire (t : SampleTarget) :
    Leads (readBitWire t) s
      (s.exchange (readSlot s.nextAnswer) 1 (s.work.store t s.nextAnswer)) := by
  have started := leads_of_plays fresh (ops := [.lineLow, .wait 3, .lineRelease, .wait 10])
    (w := [.low, .wait 3, .release, .wait 10]) rfl
  have sampled := started.extend fresh fun fresh => leads_sample fresh t
  have ended := sampled.extend (by simpa) fun fresh =>
    leads_of_plays fresh (ops := [.wait 53]) (w := [.wait 53]) rfl
  simpa [readBitWire, readSlot] using ended

end

/-! ### Reading a byte -/

/-- The byte whose bit i is the i-th answer, for i below n, and 0 from n on (R114). -/
def sampledByte (answer : Nat → Bool) : Nat → Byte
  | 0 => 0
  | n + 1 => setByteBit (sampledByte answer n) n (answer n)

theorem getLsbD_sampledByte (answer : Nat → Bool) {n i : Nat} (h8 : n ≤ 8) (h : i < n) :
    (sampledByte answer n).getLsbD i = answer i := by
  induction n with
  | zero => omega
  | succ n ih =>
    rw [sampledByte, getLsbD_setByteBit _ _ _ _ h8]
    split
    · next e => rw [e]
    · exact ih (by omega) (by omega)

/-- The waveform of the first n read slots from s on (R112). -/
def State.readSlots (s : State) (n : Nat) : List LineAction :=
  (List.range n).flatMap fun i => readSlot (s.answer i)

theorem take_succ_byteBits {n : Nat} (h : n < 8) :
    byteBits.take (n + 1) = byteBits.take n ++ [⟨n, h⟩] := by
  interval_cases n <;> rfl

/-- The first n read slots of a byte (R114). -/
theorem leads_readSlots {s : State} (fresh : s.work.elapsed = 0) (clear : s.work.value = 0) {n : Nat}
    (h8 : n ≤ 8) :
    Leads ((byteBits.take n).flatMap fun i => readBitWire (.value i)) s
      (s.exchange (s.readSlots n) n { s.work with value := sampledByte s.answer n }) := by
  induction n with
  | zero =>
    have work : { s.work with value := sampledByte s.answer 0 } = s.work := by rw [sampledByte, ← clear]
    rw [work]
    exact s.exchange_nil.symm ▸ Leads.refl s
  | succ n ih =>
    have slot := (ih (by omega)).extend fresh fun fresh => leads_readBitWire fresh (.value ⟨n, h8⟩)
    rw [State.exchange_nextAnswer] at slot
    rw [take_succ_byteBits h8, List.flatMap_append, List.flatMap_singleton, State.readSlots,
      List.range_succ, List.flatMap_append, List.flatMap_singleton]
    exact slot

/-! ### Bus reset -/

theorem State.pollOnce_of_looping {s : State} (looping : s.work.floated = false) :
    s.pollOnce = s.exchange [.sample s.nextAnswer] 1 { s.work with floated := s.nextAnswer } := by
  rw [← State.takeSample_eq_exchange, State.pollOnce, looping, if_neg (by decide)]

theorem State.floatsAt_eq_some_iff (s : State) (k : Nat) : s.floatsAt = some k ↔
    k < 125 ∧ s.answer k = true ∧ ∀ i < k, s.answer i = false := by
  simp only [State.floatsAt, List.find?_range_eq_some, List.mem_range, Bool.not_eq_true']
  tauto

theorem State.floatsAt_eq_none_iff (s : State) : s.floatsAt = none ↔
    ∀ i < 125, s.answer i = false := by
  simp only [State.floatsAt, List.find?_eq_none, List.mem_range, Bool.not_eq_true]

/-- n iterations of the float-high poll (R110). -/
def polls (n : Nat) : List MicroOp := (List.replicate n pollIteration).flatten

theorem polls_add (m n : Nat) : polls (m + n) = polls m ++ polls n := by
  rw [polls, List.replicate_add, List.flatten_append, polls, polls]

/-- The waveform of n polls that read low (R110). -/
def lowPolls (n : Nat) : List LineAction := (List.replicate n [.wait 2, .sample false]).flatten

theorem lowPolls_succ (n : Nat) : lowPolls (n + 1) = lowPolls n ++ [.wait 2, .sample false] := by
  simp [lowPolls, List.replicate_succ']

theorem shortedSlots_eq : shortedSlots = [.release] ++ lowPolls 125 := rfl

section
variable {s : State} (fresh : s.work.elapsed = 0)
include fresh

theorem leads_pollWait_of_looping (looping : s.work.floated = false) :
    Leads [.pollWait] s (s.exchange [.wait 2] 0 s.work) := by
  refine leads_of_perform fresh ?_
  rw [← State.play_eq_exchange, State.spend_of_fresh fresh]
  simp only [perform, MicroOp.cycles, looping]
  rfl

theorem leads_pollSample_of_looping (looping : s.work.floated = false) :
    Leads [.pollSample] s
      (s.exchange [.sample s.nextAnswer] 1 { s.work with floated := s.nextAnswer }) :=
  leads_of_instant fresh rfl (congrArg Flow.go (State.pollOnce_of_looping looping))

/-- A poll while the loop goes on (R110). -/
theorem leads_pollIteration (looping : s.work.floated = false) :
    Leads pollIteration s
      (s.exchange [.wait 2, .sample s.nextAnswer] 1 { s.work with floated := s.nextAnswer }) := by
  have both := (leads_pollWait_of_looping fresh looping).extend fresh fun fresh =>
    leads_pollSample_of_looping fresh looping
  rw [State.exchange_nextAnswer, State.answer_zero] at both
  exact both

/-- After the loop has been left its iterations do nothing (R110). -/
theorem leads_polls_floated (floated : s.work.floated = true) (n : Nat) : Leads (polls n) s s := by
  have wait : Leads [.pollWait] s s :=
    leads_of_instant fresh (by simp [MicroOp.cycles, floated]) (by simp [perform, floated])
  have sample : Leads [.pollSample] s s :=
    leads_of_instant fresh rfl (by simp [perform, State.pollOnce, floated])
  induction n with
  | zero => exact .refl s
  | succ n ih => exact (wait.append fresh fun _ => sample).append fresh fun _ => ih

theorem leads_lowPolls (looping : s.work.floated = false) {n : Nat}
    (low : ∀ i < n, s.answer i = false) :
    Leads (polls n) s (s.exchange (lowPolls n) n s.work) := by
  induction n with
  | zero => exact s.exchange_nil.symm ▸ Leads.refl s
  | succ n ih =>
    have polled := (ih fun i h => low i (by omega)).extend fresh fun fresh =>
      leads_pollIteration fresh looping
    have work : { s.work with floated := false } = s.work := by rw [← looping]
    rw [State.exchange_nextAnswer, State.exchange_work, low n n.lt_succ_self, work] at polled
    rw [polls_add, lowPolls_succ]
    exact polled

/-- The poll that first reads high leaves the loop (R110). -/
theorem leads_polls_of_floatsAt (looping : s.work.floated = false) {k : Nat}
    (floats : s.floatsAt = some k) :
    Leads (polls 125) s (s.exchange (pollSlots k) (k + 1) { s.work with floated := true }) := by
  obtain ⟨h125, high, low⟩ := (s.floatsAt_eq_some_iff k).1 floats
  have polled := (leads_lowPolls fresh looping low).extend fresh fun fresh =>
    leads_pollIteration fresh looping
  rw [State.exchange_nextAnswer, State.exchange_work, high] at polled
  rw [show 125 = k + 1 + (124 - k) by omega, polls_add, polls_add]
  exact polled.append fresh fun fresh => leads_polls_floated fresh rfl _

/-- The end of the float-high poll once the line has been seen high (R110). -/
theorem leads_requireFloat (floated : s.work.floated = true) (forSearch : Bool) :
    Leads [.requireFloat forSearch] s (s.setPresence s.pres false) :=
  leads_of_instant fresh rfl (by simp only [perform, State.requireFloat, floated, if_true]; rfl)

/-- The end of the float-high poll with the line never seen high (R110). -/
theorem runSeq_requireFloat_of_looping (looping : s.work.floated = false) (forSearch : Bool)
    (rest : List MicroOp) :
    runSeq none (.requireFloat forSearch :: rest) s = (s.requireFloat forSearch).state.complete := by
  apply runSeq_cons_stop
  have instant : (MicroOp.requireFloat forSearch).cycles s = 0 := rfl
  rw [instant, Nat.zero_sub, State.spend_of_fresh fresh]
  cases forSearch <;> simp [perform, State.requireFloat, looping]

/-- The reset pulse, the presence sample and the recovery (R110). -/
theorem leads_resetPulse :
    Leads [.lineLow, .wait 500, .lineRelease, .wait 65, .sample .presence, .wait 490, .recordPresence] s
      ((s.exchange [.low, .wait 500, .release, .wait 65, .sample s.nextAnswer, .wait 490] 1
        { s.work with presence := s.nextAnswer }).setPresence (!s.nextAnswer) s.short) := by
  have started := leads_of_plays fresh (ops := [.lineLow, .wait 500, .lineRelease, .wait 65])
    (w := [.low, .wait 500, .release, .wait 65]) rfl
  have sampled := started.extend fresh fun fresh => leads_sample fresh .presence
  have waited := sampled.extend fresh fun fresh =>
    leads_of_plays fresh (ops := [.wait 490]) (w := [.wait 490]) rfl
  simp only [State.exchange_nextAnswer, State.answer_zero, State.exchange_work, Work.store] at waited
  exact waited.append fresh fun fresh => leads_of_instant fresh (op := .recordPresence) rfl rfl

/-- A bus reset whose line floats at poll sample k: the whole waveform, and PRES from the presence
sample (R110). -/
theorem leads_busReset (looping : s.work.floated = false) {k : Nat} (floats : s.floatsAt = some k)
    (forSearch : Bool) :
    Leads (busReset forSearch) s
      ((s.exchange (resetSlots k (s.answer (k + 1))) (k + 2)
        { s.work with floated := true, presence := s.answer (k + 1) }).setPresence
          (!s.answer (k + 1)) false) := by
  have released := leads_of_plays fresh (ops := [.lineRelease]) (w := [.release]) rfl
  have polled := released.extend fresh fun fresh =>
    leads_polls_of_floatsAt fresh looping (by simpa using floats)
  simp only [Nat.zero_add, State.exchange_work] at polled
  have checked := polled.append fresh fun fresh => leads_requireFloat fresh rfl forSearch
  have pulsed := checked.append fresh fun fresh => leads_resetPulse fresh
  simp only [State.setPresence_nextAnswer, State.exchange_nextAnswer, State.setPresence_exchange,
    State.exchange_exchange, State.setPresence_setPresence] at pulsed
  exact pulsed

/-- A bus reset whose line never floats high ends the command (R110). -/
theorem runSeq_busReset_of_shorted (looping : s.work.floated = false) (shorted : s.floatsAt = none)
    (forSearch : Bool) (rest : List MicroOp) :
    runSeq none (busReset forSearch ++ rest) s =
      ((s.exchange shortedSlots 125 s.work).requireFloat forSearch).state.complete := by
  have released := leads_of_plays fresh (ops := [.lineRelease]) (w := [.release]) rfl
  have polled := released.extend fresh fun fresh =>
    leads_lowPolls fresh looping (n := 125) (by simpa [← State.floatsAt_eq_none_iff] using shorted)
  simp only [Nat.zero_add, State.exchange_work] at polled
  rw [busReset, List.append_assoc, List.append_assoc]
  exact (polled _).trans
    (runSeq_requireFloat_of_looping (s := s.exchange shortedSlots 125 s.work) fresh looping forSearch _)

end

/-! ### Time and line state of the waveforms -/

theorem lineTime_lowPolls (n : Nat) : lineTime (lowPolls n) = 2 * n := by
  induction n with
  | zero => rfl
  | succ n ih => simp [lowPolls_succ, lineTime_append, ih, lineTime]; omega

theorem lineAfter_lowPolls (l : LineState) (n : Nat) :
    (lowPolls n).foldl LineAction.lineAfter l = l := by
  induction n with
  | zero => rfl
  | succ n ih => simp [lowPolls_succ, ih, LineAction.lineAfter]

theorem lineTime_shortedSlots : lineTime shortedSlots = 250 := by
  rw [shortedSlots_eq, lineTime_append, lineTime_lowPolls]; rfl

theorem lineAfter_shortedSlots (l : LineState) :
    shortedSlots.foldl LineAction.lineAfter l = .released := by
  rw [shortedSlots_eq, List.foldl_append, lineAfter_lowPolls]; rfl

theorem lineTime_resetSlots (k : Nat) (r : Bool) :
    lineTime (resetSlots k r) = 2 * (k + 1) + 1055 := by
  have poll : pollSlots k = lowPolls k ++ [.wait 2, .sample true] := rfl
  simp [resetSlots, poll, lineTime_append, lineTime_lowPolls, lineTime]
  omega

theorem lineAfter_resetSlots (l : LineState) (k : Nat) (r : Bool) :
    (resetSlots k r).foldl LineAction.lineAfter l = .released := by
  simp [resetSlots, LineAction.lineAfter]

theorem State.lineTime_readSlots (s : State) (n : Nat) : lineTime (s.readSlots n) = 66 * n := by
  induction n with
  | zero => rfl
  | succ n ih =>
    rw [State.readSlots, List.range_succ, List.flatMap_append, List.flatMap_singleton, lineTime_append,
      ← State.readSlots, ih]
    rfl

theorem State.lineAfter_readSlots (s : State) (l : LineState) (n : Nat) :
    (s.readSlots (n + 1)).foldl LineAction.lineAfter l = .released := by
  rw [State.readSlots, List.range_succ, List.flatMap_append, List.foldl_append]
  rfl

/-- A byte written, with holdPower or without (R113). -/
theorem plays_writeByteWire_hold (s : State) (v : ByteSource) (hold : Bool) :
    s.Plays (writeByteWire v hold) (writeByteSlots (s.byteOf v) ++ if hold then [.high] else []) := by
  cases hold with
  | false => simpa using plays_writeByteWire s v
  | true =>
    have written := (plays_writeByteWire s v).append (b := [.lineHigh]) (x := [.high]) rfl
    simpa [writeByteWire] using written

/-- A command that reads n + 1 bits into DATA (R122, R124). -/
theorem runSeq_read (s : State) (c : Instr) {n : Nat} (h8 : n < 8) :
    runSeq none (((byteBits.take (n + 1)).flatMap fun i => readBitWire (.value i)) ++ [.storeData])
      (s.accept c) =
    { s.consume (n + 1) with
      cmd := encode c, phase := .idle, work := Work.clear
      data := sampledByte s.answer (n + 1)
      line := .released
      log := (s.readSlots (n + 1)).reverse ++ s.log
      clock := s.clock + 66 * (n + 1) * s.params.ticksPerUs } := by
  have slots := leads_readSlots (s := s.accept c) (n := n + 1) rfl rfl h8
  have stored := slots.append rfl fun fresh => leads_of_instant fresh (op := .storeData) rfl rfl
  rw [stored.runSeq_eq]
  simp only [State.exchange, State.play, State.lineTime_readSlots, State.lineAfter_readSlots]
  rfl

/-! ### The first line action of a command -/

theorem runSeq_first_entry {op : MicroOp} {ops : List MicroOp} {s : State} {a : LineAction}
    (fresh : s.work.elapsed = 0) (entry : op.entry s = some a) :
    ∃ later, (runSeq none (op :: ops) s).trace = s.trace ++ a :: later := by
  obtain ⟨w, log⟩ := (runSeq_forward none ops (s.play [a])).log
  refine ⟨w.reverse, ?_⟩
  rw [runSeq_none_entry fresh entry, State.trace, log]
  simp [State.trace, State.play]

/-! ### The time a command takes -/

/-- From s to t the clock has advanced by the waits added to the trace and by `own` cycles (R100). -/
def Timed (s : State) (own : Nat) (t : State) : Prop :=
  ∃ w, t.trace = s.trace ++ w ∧ t.clock = s.clock + lineTime w * s.params.ticksPerUs + own

theorem timed_of_no_line {s t : State} {own : Nat} (trace : t.trace = s.trace)
    (clock : t.clock = s.clock + own) : Timed s own t :=
  ⟨[], by rw [trace, List.append_nil], by rw [clock, lineTime, Nat.zero_mul, Nat.add_zero]⟩

theorem Timed.trans {s t u : State} {m n : Nat} (first : Timed s m t) (params : t.params = s.params)
    (second : Timed t n u) : Timed s (m + n) u := by
  obtain ⟨w, trace, clock⟩ := first
  obtain ⟨x, trace', clock'⟩ := second
  refine ⟨w ++ x, by rw [trace', trace, List.append_assoc], ?_⟩
  rw [clock', clock, params, lineTime_append, Nat.add_mul]
  omega

/-- The most cycles that an action takes beyond its waits (R243). -/
def MicroOp.ownCycles : MicroOp → Nat
  | .checkLastDevice | .conclude | .searchInit | .crcClear => 1
  | .crcByte => 8
  | .crcAddr n => 8 * n
  | .lineLow | .lineHigh | .lineRelease | .wait _ | .slotLow _ | .slotRest _ | .sample _ => 0
  | .pollWait | .pollSample | .requireFloat _ | .recordPresence | .requirePresence | .storeData => 0
  | .atPosition _ | .chooseDirection => 0

/-- An action's time is that of the waits it puts on the trace and its own cycles. -/
theorem cycles_eq_waits (op : MicroOp) (s : State) :
    ∃ w, ∃ own ≤ op.ownCycles, (perform op s).state.log = w ++ s.log ∧
      op.cycles s = lineTime w.reverse * s.params.ticksPerUs + own := by
  cases op
  case lineLow | lineHigh | lineRelease | wait | slotLow | slotRest | sample =>
    exact ⟨[_], 0, le_rfl, rfl, by simp [MicroOp.cycles, lineTime]⟩
  case pollWait =>
    simp only [perform, MicroOp.cycles]
    split
    · exact ⟨[], 0, le_rfl, rfl, by simp [lineTime]⟩
    · exact ⟨[_], 0, le_rfl, rfl, by simp [lineTime]⟩
  case pollSample =>
    simp only [perform, MicroOp.cycles, State.pollOnce]
    split
    · exact ⟨[], 0, le_rfl, rfl, by simp [lineTime]⟩
    · exact ⟨[_], 0, le_rfl, rfl, by simp [lineTime]⟩
  case requireFloat | requirePresence | chooseDirection | conclude =>
    simp only [perform, MicroOp.cycles, State.requireFloat, State.report]
    split_ifs <;> exact ⟨[], _, le_rfl, rfl, by simp [lineTime, MicroOp.ownCycles]⟩
  case checkLastDevice =>
    simp only [perform, MicroOp.cycles]
    split
    · exact ⟨[], 1, le_rfl, rfl, by simp [lineTime]⟩
    · exact ⟨[], 0, Nat.zero_le _, rfl, by simp [lineTime]⟩
  all_goals exact ⟨[], _, le_rfl, rfl, by simp [MicroOp.cycles, lineTime, MicroOp.ownCycles]⟩

theorem perform_elapsed (op : MicroOp) (s : State) :
    (perform op s).state.work.elapsed = s.work.elapsed := by
  cases op
  case sample => exact Work.store_elapsed _ _ _
  case pollWait | pollSample | requireFloat | requirePresence | checkLastDevice | chooseDirection |
      conclude =>
    simp only [perform, State.pollOnce, State.requireFloat, State.report]
    split_ifs <;> rfl
  all_goals rfl

theorem cycles_spend (op : MicroOp) (s : State) (c : Nat) : op.cycles (s.spend c) = op.cycles s := by
  cases op <;> rfl

theorem perform_timed (op : MicroOp) (s : State) :
    ∃ own ≤ op.ownCycles, Timed s own (perform op (s.spend (op.cycles s))).state := by
  obtain ⟨w, own, le, log, cycles⟩ := cycles_eq_waits op (s.spend (op.cycles s))
  rw [cycles_spend] at cycles
  refine ⟨own, le, w.reverse, by simp [State.trace, log], ?_⟩
  rw [(perform_frame op _).clock, State.spend_clock, Nat.add_assoc]
  exact congrArg (s.clock + ·) cycles

/-- A run takes its waits and at most its actions' own cycles. -/
theorem runSeq_timed (ops : List MicroOp) {s : State} (fresh : s.work.elapsed = 0) :
    ∃ own ≤ (ops.map MicroOp.ownCycles).sum, Timed s own (runSeq none ops s) := by
  induction ops generalizing s with
  | nil => exact ⟨0, le_rfl, timed_of_no_line (by simp [State.trace]) (by simp)⟩
  | cons op ops ih =>
    obtain ⟨own, le, timed⟩ := perform_timed op s
    have params := (perform_sameOutside op (s.spend (op.cycles s))).params
    have elapsed := perform_elapsed op (s.spend (op.cycles s))
    rw [List.map_cons, List.sum_cons]
    cases h : perform op (s.spend (op.cycles s)) with
    | go t =>
      rw [h] at timed params elapsed
      obtain ⟨own', le', timed'⟩ := ih (s := t) elapsed
      rw [runSeq_cons_go (by rwa [fresh, Nat.sub_zero])]
      exact ⟨own + own', by omega, timed.trans params timed'⟩
    | stop t =>
      rw [h] at timed
      rw [runSeq_cons_stop (by rwa [fresh, Nat.sub_zero])]
      exact ⟨own, by omega, timed⟩

/-- No bus command has an action with cycles of its own (R100). -/
theorem ownCycles_of_mem_bus_command {i : Instr} {op : MicroOp}
    (bus : i = .reset ∨ (∃ b, i = .wbit b) ∨ i = .rbit ∨ (∃ p, i = .wbyte p) ∨ i = .rbyte ∨ i = .select)
    (mem : op ∈ actionsOf i) : op.ownCycles = 0 := by
  cases op
  case checkLastDevice | conclude | searchInit | crcClear | crcByte | crcAddr =>
    obtain rfl | ⟨b, rfl⟩ | rfl | ⟨p, rfl⟩ | rfl | rfl := bus <;> simp [actionsOf] at mem
  all_goals rfl

/-- In SEARCH_NEXT from its step 2 on, only steps 5 to 7 have a cycle of their own (R243). -/
theorem sum_ownCycles_searchNextFromStep2 : (searchNextFromStep2.map MicroOp.ownCycles).sum = 1 := by
  have split : searchNextFromStep2 = (busReset true ++ ([.requirePresence] ++
      (writeByteWire .searchRomCmd false ++ positions.flatMap searchPosition))) ++ [.conclude] := by
    simp only [searchNextFromStep2, List.append_assoc]
  rw [split, List.map_append, List.sum_append]
  refine congrArg (· + 1) (List.sum_eq_zero fun own mapped => ?_)
  obtain ⟨op, mem, rfl⟩ := List.mem_map.1 mapped
  cases op
  case checkLastDevice | conclude | searchInit | crcClear | crcByte | crcAddr => simp at mem
  all_goals rfl

/-- SEARCH_NEXT takes a cycle for EXHAUSTED in step 1, or at most the one of steps 5 to 7 (R243). -/
theorem searchNext_timed {s : State} (fresh : s.work.elapsed = 0) :
    ∃ own ≤ 1, Timed s own (runSeq none (actionsOf .searchNext) s) := by
  rw [actionsOf_searchNext, runSeq_none_checkLastDevice, fresh, Nat.sub_zero]
  cases ldf : s.ldf with
  | true => exact ⟨1, le_rfl, timed_of_no_line rfl (by simp [MicroOp.cycles, ldf])⟩
  | false =>
    have instant : MicroOp.checkLastDevice.cycles s = 0 := by simp [MicroOp.cycles, ldf]
    have run := runSeq_timed searchNextFromStep2 (s := s.spend 0) rfl
    rw [sum_ownCycles_searchNextFromStep2] at run
    rw [if_neg (by decide), instant]
    exact run

/-- A command whose actions have no cycles of their own takes its waits only (R100). -/
theorem timed_of_line {s : State} {ops : List MicroOp} (fresh : s.work.elapsed = 0)
    (line : ∀ op ∈ ops, op.ownCycles = 0) : Timed s 0 (runSeq none ops s) := by
  obtain ⟨own, le, timed⟩ := runSeq_timed ops fresh
  rw [List.sum_eq_zero (by simpa using line)] at le
  rwa [Nat.le_zero.1 le] at timed

/-- The cycles beyond its waits that each command may take (R100, R243). -/
def OwnTime (own : Nat) : Instr → Prop
  | .reset | .wbit _ | .rbit | .wbyte _ | .rbyte | .select => own = 0
  | .searchNext => own ≤ 1
  | .searchInit | .crcClear => own = 1
  | .crcByte => own = 8
  | .crcAddr n => own = 8 * n

theorem command_timed (i : Instr) (s : State) :
    ∃ own, OwnTime own i ∧ Timed s own (runSeq none (actionsOf i) (s.accept i)) := by
  cases i with
  | reset | wbit | rbit | wbyte | rbyte | select =>
    exact ⟨0, rfl, timed_of_line (s := s.accept _) rfl fun op mem =>
      ownCycles_of_mem_bus_command (by simp) mem⟩
  | searchNext => exact searchNext_timed (s := s.accept .searchNext) rfl
  | searchInit | crcClear | crcByte | crcAddr => exact ⟨_, rfl, timed_of_no_line rfl rfl⟩

/-! ### The obligations -/

/-- Settles O19: a bus reset whose line never floats high records SHORT and ends there. -/
theorem resetOnShortedBus : Obligations.ResetOnShortedBus := by
  intro s none shorted
  have run := runSeq_busReset_of_shorted (s := s.accept .reset) rfl rfl shorted false []
  rw [List.append_nil] at run
  rw [exec_of_no_events none, actionsOf, run]
  simp only [State.exchange, State.play, lineTime_shortedSlots, lineAfter_shortedSlots]
  rfl

/-- Settles O20: a bus reset whose line floats high goes on to its presence sample. -/
theorem resetDetectsPresence : Obligations.ResetDetectsPresence := by
  intro s k none floats
  have run := leads_busReset (s := s.accept .reset) rfl rfl floats false
  rw [exec_of_no_events none, actionsOf, run.runSeq_eq]
  simp only [State.exchange, State.play, lineTime_resetSlots, lineAfter_resetSlots]
  rfl

/-- Settles O23: the byte's slots, then the driver's last action. -/
theorem wbyteWritesData : Obligations.WbyteWritesData := by
  intro s p none
  rw [exec_of_no_events none, actionsOf, runSeq_none_plays rfl (plays_writeByteWire_hold _ .latch p)]
  cases p with
  | false | true =>
    simp only [State.play, lineTime_append, lineTime_writeByteSlots, List.foldl_append,
      lineAfter_writeByteSlots]
    rfl

/-- Settles O24: eight read slots, each into its own bit. -/
theorem rbyteReadsData : Obligations.RbyteReadsData := by
  intro s none
  refine ⟨sampledByte s.answer 8, fun i h => getLsbD_sampledByte s.answer le_rfl h, ?_⟩
  have run := runSeq_read s .rbyte (n := 7) (by decide)
  exact (exec_of_no_events none _).trans (congrArg Host.Outcome.next run)

/-- Settles O27: the first action of each command's list, SEARCH_NEXT's after step 1. -/
theorem firstLineAction : Obligations.FirstLineAction := by
  intro i s none
  refine ⟨_, exec_of_no_events none i, ?_⟩
  cases i with
  | wbit | rbit | wbyte | rbyte | select | reset =>
    exact runSeq_first_entry (s := s.accept _) rfl rfl
  | searchNext =>
    rw [actionsOf_searchNext, runSeq_none_checkLastDevice, State.accept_ldf]
    cases s.ldf with
    | true => rfl
    | false =>
      rw [if_neg (by decide)]
      exact runSeq_first_entry (s := (s.accept .searchNext).spend _) rfl rfl
  | searchInit | crcClear | crcByte | crcAddr => rfl

/-- Settles O28: a bus command has no action with cycles of its own, SEARCH_NEXT at most one, and the
others are one action without line time. -/
theorem commandTimeIsSumOfWaits : Obligations.CommandTimeIsSumOfWaits := by
  intro i s none
  obtain ⟨own, ownTime, w, trace, clock⟩ := command_timed i s
  refine ⟨_, w, own, exec_of_no_events none i, trace, clock, ?_⟩
  cases i <;> exact ownTime

/-- Settles O21: the slot's waveform and nothing else. -/
theorem wbitWritesOneSlot : Obligations.WbitWritesOneSlot := by
  intro s b none
  rw [exec_of_no_events none, actionsOf, runSeq_none_plays rfl (plays_writeBitWire _ (.imm b))]
  cases b <;> rfl

/-- Settles O22: one read slot, whose sample becomes bit 0 of DATA. -/
theorem rbitReadsOneSlot : Obligations.RbitReadsOneSlot := by
  intro s none
  have run := runSeq_read s .rbit (n := 0) (by decide)
  have bit : sampledByte s.answer 1 = if s.answer 0 then 0x01 else 0x00 := by
    rw [sampledByte, sampledByte]
    cases s.answer 0 <;> decide
  rw [bit] at run
  exact (exec_of_no_events none _).trans (congrArg Host.Outcome.next run)

end Sys2Proof.Machine
end

section
/-! PROOFS. The family 41_crc8.md: the CRC step as eight turns of one register, each of which can
be undone, what that says of byte strings and addresses, and the CRC commands. -/

namespace Sys2Proof.Machine

open Sys2Proof

/-! ### One turn of the CRC register -/

/-- What one iteration of the loop makes of e = crc ^ inp (R142). -/
def crcShift (e : Byte) : Byte := e >>> 1 ^^^ if e.getLsbD 0 then 0x8C else 0

theorem crcShift_zero : crcShift 0 = 0 := by decide

/-- The bit that is shifted out comes back as bit 7 (R143). -/
theorem getLsbD_crcShift_seven (e : Byte) : (crcShift e).getLsbD 7 = e.getLsbD 0 := by
  unfold crcShift
  cases e.getLsbD 0 <;> simp

theorem crcShift_injective : Function.Injective crcShift := by
  intro x y h
  have low : x.getLsbD 0 = y.getLsbD 0 := by
    rw [← getLsbD_crcShift_seven, h, getLsbD_crcShift_seven]
  have high : x >>> 1 = y >>> 1 := by
    rw [crcShift, crcShift, low] at h
    exact (BitVec.xor_left_inj _).1 h
  refine BitVec.eq_of_getLsbD_eq fun i _ => ?_
  cases i with
  | zero => exact low
  | succ i =>
    simpa [Nat.add_comm] using congrArg (fun v : Byte => v.getLsbD i) high

/-! ### The CRC step -/

/-- An iteration's test, "mix = 1", is on bit 0 of crc ^ inp. -/
theorem and_one_eq_one_iff (e : Byte) : e &&& 1 = 1 ↔ e.getLsbD 0 = true := by
  have h := BitVec.and_one_eq_setWidth_ofBool_getLsbD (x := e)
  cases low : e.getLsbD 0 <;> rw [low] at h <;> simp [h]

/-- In n iterations crc ^ inp takes n turns (R142). -/
theorem crc8Loop_xor (n : Nat) (c d : Byte) :
    crc8Loop n c d ^^^ d >>> n = crcShift^[n] (c ^^^ d) := by
  induction n generalizing c d with
  | zero => simp [crc8Loop]
  | succ n ih =>
    have inp : d >>> (n + 1) = d >>> 1 >>> n := by rw [← BitVec.shiftRight_add, Nat.add_comm]
    rw [crc8Loop, inp, ih, Function.iterate_succ_apply]
    congr 1
    simp only [and_one_eq_one_iff, crcShift, BitVec.ushiftRight_xor_distrib]
    split
    · ac_rfl
    · exact BitVec.xor_zero.symm

/-- After eight iterations inp is 0, and crc is eight turns of c ^ d (R142). -/
theorem crc8Step_eq_iterate (c d : Byte) : crc8Step c d = crcShift^[8] (c ^^^ d) := by
  have gone : d >>> 8 = 0 := BitVec.ushiftRight_eq_zero (Nat.le_refl 8)
  rw [← crc8Loop_xor, gone, crc8Step]
  exact BitVec.xor_zero.symm

/-- Two steps agree exactly when the exclusive ors of their arguments do. -/
theorem crc8Step_eq_iff (c d c' d' : Byte) :
    crc8Step c d = crc8Step c' d' ↔ c ^^^ d = c' ^^^ d' := by
  rw [crc8Step_eq_iterate, crc8Step_eq_iterate]
  exact (crcShift_injective.iterate 8).eq_iff

theorem crc8Step_zero_zero : crc8Step 0 0 = 0 := by
  rw [crc8Step_eq_iterate]
  exact Function.iterate_fixed crcShift_zero 8

theorem crc8Step_eq_zero_iff (c d : Byte) : crc8Step c d = 0 ↔ d = c := by
  calc crc8Step c d = 0 ↔ crc8Step c d = crc8Step 0 0 := by rw [crc8Step_zero_zero]
    _ ↔ c ^^^ d = 0 ^^^ 0 := crc8Step_eq_iff ..
    _ ↔ d = c := by rw [BitVec.xor_self]; exact BitVec.xor_eq_zero_iff.trans eq_comm

/-! ### The CRC of a byte string -/

theorem crc8_succ {l : List Byte} {n : Nat} (h : n < l.length) :
    crc8 l (n + 1) = crc8Step (crc8 l n) l[n] := by
  rw [crc8, List.take_succ_eq_append_getElem h, List.foldl_append, List.foldl_cons,
    List.foldl_nil, crc8]

/-- The bytes still to come never make two CRC states equal (R143). -/
theorem foldl_crc8Step_injective (l : List Byte) :
    Function.Injective fun c => l.foldl crc8Step c := by
  induction l with
  | nil => exact fun _ _ h => h
  | cons b l ih => exact fun c d h => (BitVec.xor_left_inj _).1 ((crc8Step_eq_iff ..).1 (ih h))

/-- Changing one byte of a string changes its CRC. -/
theorem eq_getElem_of_crc8_set_eq {l : List Byte} {k : Nat} {v : Byte} (h : k < l.length)
    (same : crc8 (l.set k v) l.length = crc8 l l.length) : v = l[k] := by
  have folds : (l.set k v).foldl crc8Step 0x00 = (l.set k l[k]).foldl crc8Step 0x00 := by
    rw [List.set_getElem_self h]
    simpa only [crc8, List.take_length, List.take_of_length_le, List.length_set, le_refl] using same
  rw [List.set_eq_take_cons_drop _ h, List.set_eq_take_cons_drop _ h, List.foldl_append,
    List.foldl_append, List.foldl_cons, List.foldl_cons] at folds
  exact (BitVec.xor_right_inj _).1 ((crc8Step_eq_iff ..).1 (foldl_crc8Step_injective _ folds))

/-! ### Addresses -/

theorem validAddress_iff_crc8_eq (a : Bytes8) : validAddress a = true ↔ crc8 a.toList 7 = a[7] :=
  beq_iff_eq

theorem validAddress_iff_crc8_zero (a : Bytes8) :
    validAddress a = true ↔ crc8 a.toList 8 = 0x00 := by
  have last : crc8 a.toList 8 = crc8Step (crc8 a.toList 7) a[7] := crc8_succ (by simp)
  rw [last, crc8Step_eq_zero_iff, validAddress_iff_crc8_eq, eq_comm]

/-- Two valid addresses never differ in one byte alone. -/
theorem eq_of_validAddress_set {a : Bytes8} {k : Nat} {v : Byte} (h : k < 8)
    (valid : validAddress a = true) (valid' : validAddress (a.set k v) = true) : v = a[k] := by
  rw [validAddress_iff_crc8_zero] at valid valid'
  rw [Vector.toList_set] at valid'
  have eight : a.toList.length = 8 := Vector.length_toList
  rw [← Vector.getElem_toList (by omega)]
  exact eq_getElem_of_crc8_set_eq (by omega) (by rw [eight, valid, valid'])

/-! ### The obligations -/

/-- Settles O33: the step is eight turns of c ^ d, whichever argument holds it. -/
theorem crcStepLinear : Obligations.CrcStepLinear := by
  intro c d
  simp [crc8Step_eq_iff]

/-- Settles O34: steps with a zero byte are equal only from equal states, and bytes are
finitely many. -/
theorem crcZeroStepBijective : Obligations.CrcZeroStepBijective := by
  have injective : Function.Injective fun x : Byte => crc8Step x 0x00 :=
    fun _ _ h => (BitVec.xor_left_inj _).1 ((crc8Step_eq_iff ..).1 h)
  exact ⟨Finite.injective_iff_bijective.1 injective,
    fun x => (crc8Step_eq_zero_iff x 0).trans eq_comm⟩

/-- Settles O35: the last step gives 0 exactly when its two arguments are equal. -/
theorem crcSelfCheck : Obligations.CrcSelfCheck := by
  intro m v
  have last : crc8 (m ++ [v]) (m.length + 1) = crc8Step (crc8 m m.length) v := by
    rw [crc8_succ (by simp), crc8, crc8, List.take_left, List.take_length,
      List.getElem_concat_length rfl]
  rw [last, crc8Step_eq_zero_iff]

/-- Settles O36: flipping a bit changes one byte, and two valid addresses never differ in one byte
alone. -/
theorem validAddressesDifferInTwoBits : Obligations.ValidAddressesDifferInTwoBits := by
  refine ⟨fun a => ⟨validAddress_iff_crc8_eq a, validAddress_iff_crc8_zero a⟩, fun a p valid => ?_⟩
  by_contra valid'
  have kept := eq_of_validAddress_set (by omega) valid (Bool.eq_true_of_not_eq_false valid')
  have flipped : addressBit (setAddressBit a p (!addressBit a p)) p = addressBit a p := by
    rw [setAddressBit, kept, Vector.set_getElem_self]
  simp at flipped

/-- Settles O29, with O32's run of CRC_CLEAR. -/
theorem crcClearSeedsAccumulator : Obligations.CrcClearSeedsAccumulator :=
  fun _ none => exec_crcClear none

/-- Settles O30: O32's run of CRC_BYTE; a step from c with c gives 0. -/
theorem crcByteFoldsData : Obligations.CrcByteFoldsData := by
  refine ⟨fun _ none => exec_crcByte none, crc8Step_zero_zero, fun c => ?_, by decide, by decide⟩
  exact (crc8Step_eq_zero_iff c c).2 rfl

/-- Settles O31: one action of 8n cycles, which writes CRC from ADDR alone. -/
theorem crcAddrCoversFirstBytes : Obligations.CrcAddrCoversFirstBytes := by
  intro s n none _ _
  rw [exec_of_no_events none]
  rfl

end Sys2Proof.Machine
end

section
/-! PROOFS. The family 42_search.md: the search commands step by step, SEARCH_NEXT as the recursion
`scan`, the pass that a bus of devices steers to one of its addresses, and the enumeration of them all. -/

namespace Sys2Proof.Machine

open Sys2Proof

/-! ### The direction at a conflict -/

/-- The direction that R163 chooses at a conflict, from LASTDISC and the bits of the last pass. -/
def chosen (disc : Int) (srom : Bytes8) (p : BitPosition) : Bool :=
  if (p.val : Int) < disc then addressBit srom p else decide ((p.val : Int) = disc)

section
variable {disc : Int} {srom : Bytes8} {p : BitPosition}

theorem chosen_of_lt (h : (p.val : Int) < disc) : chosen disc srom p = addressBit srom p :=
  if_pos h

theorem chosen_of_eq (h : (p.val : Int) = disc) : chosen disc srom p = true := by
  simp [chosen, h]

theorem chosen_of_gt (h : disc < (p.val : Int)) : chosen disc srom p = false := by
  rw [chosen, if_neg (by omega), decide_eq_false (by omega)]

end

/-- With LASTDISC "none" every conflict is past it (R163). -/
theorem chosen_none (srom : Bytes8) (p : BitPosition) : chosen (-1) srom p = false :=
  chosen_of_gt (by omega)

theorem State.choose_eq_chosen (s : State) (p : BitPosition) :
    s.choose p = chosen s.lastDisc.toInt s.srom p := by
  simp only [State.choose, State.lastDiscInt, chosen]
  congr 1

/-! ### Steps 1 and 2 of SEARCH_NEXT -/

/-- With LDF = 0 step 1 lets the command go on (R170). -/
theorem exec_searchNext_of_not_last {s : State} (none : s.pending = []) (ldf : s.ldf = false) :
    exec .searchNext s = .next (runSeq Option.none searchNextFromStep2 (s.accept .searchNext)) := by
  have instant : MicroOp.checkLastDevice.cycles (s.accept .searchNext) = 0 := by
    simp [MicroOp.cycles, ldf]
  rw [exec_of_no_events none, actionsOf_searchNext, runSeq_none_checkLastDevice, State.accept_ldf, ldf,
    if_neg (by decide), instant]
  rfl

section
variable {s : State} (fresh : s.work.elapsed = 0)
include fresh

/-- An action that takes no time and returns ends the command. -/
theorem runSeq_stop_of_instant {op : MicroOp} {t : State} (instant : op.cycles s = 0)
    (h : perform op s = .stop t) (rest : List MicroOp) :
    runSeq none (op :: rest) s = t.complete :=
  runSeq_cons_stop (by rwa [instant, Nat.zero_sub, State.spend_of_fresh fresh])

theorem leads_requirePresence (present : s.pres = true) : Leads [.requirePresence] s s :=
  leads_of_instant fresh rfl (by simp [perform, present])

theorem runSeq_requirePresence_of_absent (absent : s.pres = false) (rest : List MicroOp) :
    runSeq none (.requirePresence :: rest) s = (s.endSearch .noDevices).complete :=
  runSeq_stop_of_instant fresh rfl (by simp [perform, absent]) rest

end

/-! ### Step 4 at one position -/

/-- The direction that step 4 takes at position p on the bits b and cb (R170). -/
def scanDirection (disc : Int) (srom : Bytes8) (p : BitPosition) (b cb : Bool) : Bool :=
  if b != cb then b else chosen disc srom p

theorem scanDirection_conflict (disc : Int) (srom : Bytes8) (p : BitPosition) :
    scanDirection disc srom p false false = chosen disc srom p := rfl

/-- `lz` after step 4 has taken direction dir at position p (R163, R170). -/
def scanLz (p : BitPosition) (b cb dir : Bool) (lz : Int) : Int :=
  if b = cb ∧ dir = false then (p.val : Int) else lz

section
variable {disc : Int} {answer : Nat → Bool} {p : BitPosition} {ps : List BitPosition} {j : Nat}
  {srom : Bytes8} {lz : Int}

theorem scan_cons_of_both (both : (answer j && answer (j + 1)) = true) :
    scan disc answer (p :: ps) j srom lz =
      ⟨true, srom, lz, readSlot (answer j) ++ readSlot (answer (j + 1)), j + 2⟩ := by
  obtain ⟨b, cb⟩ := (Bool.and_eq_true _ _).mp both
  rw [scan, b, cb]

theorem scan_cons_of_not_both (go : (answer j && answer (j + 1)) = false) :
    scan disc answer (p :: ps) j srom lz =
      let dir := scanDirection disc srom p (answer j) (answer (j + 1))
      let r := scan disc answer ps (j + 2) (setAddressBit srom p dir)
        (scanLz p (answer j) (answer (j + 1)) dir lz)
      { r with
        trace := readSlot (answer j) ++ readSlot (answer (j + 1)) ++ writeSlot dir ++ r.trace } := by
  rw [scan]
  cases b : answer j <;> cases cb : answer (j + 1)
  case true.true => rw [b, cb] at go; cases go
  all_goals rfl

end

theorem State.direction_eq (s : State) :
    s.direction = scanDirection s.lastDisc.toInt s.srom s.work.pos s.work.b s.work.cb := by
  rw [State.direction, State.choose_eq_chosen]
  rfl

theorem State.nextLz_eq (s : State) :
    s.nextLz = scanLz s.work.pos s.work.b s.work.cb s.direction s.work.lz := by
  simp [State.nextLz, scanLz]

/-- The sequencer's variables once both bits of position p are read. -/
def Work.read (k : Work) (p : BitPosition) (b cb : Bool) : Work := { k with pos := p, b := b, cb := cb }

/-- The sequencer's variables once the direction dir is taken (R170). -/
def Work.steer (k : Work) (dir : Bool) : Work :=
  { k with dir := dir, lz := scanLz k.pos k.b k.cb dir k.lz }

@[simp] theorem Work.steer_read_lz (k : Work) (p : BitPosition) (b cb dir : Bool) :
    ((k.read p b cb).steer dir).lz = scanLz p b cb dir k.lz := rfl

/-- s with another candidate address. -/
def State.withSrom (s : State) (a : Bytes8) : State := { s with srom := a }

section
variable (s : State) (a : Bytes8)

theorem State.withSrom_exchange (w : List LineAction) (n : Nat) (k : Work) :
    (s.withSrom a).exchange w n k = (s.exchange w n k).withSrom a := rfl

theorem State.takeDirection_eq_exchange :
    s.takeDirection = (s.exchange [] 0 (s.work.steer s.direction)).withSrom
      (setAddressBit s.srom s.work.pos s.direction) := by
  simp [State.takeDirection, State.nextLz_eq, State.withSrom, State.exchange, Work.steer]

end

section
variable {s : State} (fresh : s.work.elapsed = 0)
include fresh

/-- The two read slots of position p (R170). -/
theorem leads_searchReads (p : BitPosition) :
    Leads ([.atPosition p] ++ readBitWire .bit ++ readBitWire .complement) s
      (s.exchange (readSlot (s.answer 0) ++ readSlot (s.answer 1)) 2
        (s.work.read p (s.answer 0) (s.answer 1))) := by
  have placed : Leads [.atPosition p] s (s.exchange [] 0 { s.work with pos := p }) :=
    leads_of_instant fresh rfl (by simp [perform, State.exchange])
  have first := placed.extend fresh fun fresh => leads_readBitWire fresh .bit
  have second := first.extend (by simpa) fun fresh => leads_readBitWire fresh .complement
  simp only [State.exchange_nextAnswer] at second
  exact second

/-- The direction taken at a position, and its write slot (R170). -/
theorem leads_writeDirection (go : (s.work.b && s.work.cb) = false) :
    Leads ([.chooseDirection] ++ writeBitWire .dir) s
      ((s.exchange (writeSlot s.direction) 0 (s.work.steer s.direction)).withSrom
        (setAddressBit s.srom s.work.pos s.direction)) := by
  have taken : Leads [.chooseDirection] s s.takeDirection :=
    leads_of_instant fresh rfl (by simp only [perform, go]; rfl)
  have written := taken.append fresh fun fresh =>
    leads_of_plays fresh (plays_writeBitWire s.takeDirection .dir)
  rw [State.takeDirection_eq_exchange, State.withSrom_exchange, State.exchange_exchange] at written
  exact written

/-- Both ones at a position: step 4 returns with NO_DEVICES (R170, R201). -/
theorem runSeq_chooseDirection_of_both (both : (s.work.b && s.work.cb) = true)
    (rest : List MicroOp) :
    runSeq none (.chooseDirection :: rest) s = (s.endSearch .noDevices).complete :=
  runSeq_stop_of_instant fresh rfl (by rw [perform, if_pos both]) rest

/-- A position that reads both ones ends the command (R170). -/
theorem runSeq_searchPosition_of_both (p : BitPosition) (both : (s.answer 0 && s.answer 1) = true)
    (rest : List MicroOp) :
    runSeq none (searchPosition p ++ rest) s =
      ((s.exchange (readSlot (s.answer 0) ++ readSlot (s.answer 1)) 2
        (s.work.read p (s.answer 0) (s.answer 1))).endSearch .noDevices).complete := by
  rw [searchPosition, List.append_assoc, List.append_assoc, leads_searchReads fresh p]
  exact runSeq_chooseDirection_of_both (s := s.exchange _ 2 (s.work.read p _ _)) fresh both _

/-- A position that does not read both ones takes the direction of R170 and goes on. -/
theorem leads_searchPosition (p : BitPosition) (go : (s.answer 0 && s.answer 1) = false) :
    let dir := scanDirection s.lastDisc.toInt s.srom p (s.answer 0) (s.answer 1)
    Leads (searchPosition p) s
      ((s.exchange (readSlot (s.answer 0) ++ readSlot (s.answer 1) ++ writeSlot dir) 2
        ((s.work.read p (s.answer 0) (s.answer 1)).steer dir)).withSrom
        (setAddressBit s.srom p dir)) := by
  have steered := (leads_searchReads fresh p).append fresh fun fresh => leads_writeDirection fresh go
  rw [State.exchange_exchange, State.direction_eq, ← List.append_assoc] at steered
  exact steered

end

/-! ### SEARCH_NEXT as a recursion over the positions -/

/-- s within step 4: the waveform w played, n samples taken, the candidate a, the variables k. -/
def State.scanning (s : State) (w : List LineAction) (n : Nat) (a : Bytes8) (k : Work) : State :=
  (s.exchange w n k).withSrom a

section
variable (s : State) (w : List LineAction) (n : Nat) (a : Bytes8) (k : Work)

theorem State.scanning_answer (j : Nat) : (s.scanning w n a k).answer j = s.answer (n + j) :=
  s.exchange_answer w n k j

theorem State.scanning_exchange (x : List LineAction) (m : Nat) (l : Work) :
    (s.scanning w n a k).exchange x m l = s.scanning (w ++ x) (n + m) a l := by
  rw [State.scanning, State.withSrom_exchange, State.exchange_exchange, State.scanning]

variable {k} (fresh : k.elapsed = 0)
include fresh

theorem runSeq_scanning_of_both (p : BitPosition) (both : (s.answer n && s.answer (n + 1)) = true)
    (rest : List MicroOp) :
    runSeq none (searchPosition p ++ rest) (s.scanning w n a k) =
      ((s.scanning (w ++ (readSlot (s.answer n) ++ readSlot (s.answer (n + 1)))) (n + 2) a
        (k.read p (s.answer n) (s.answer (n + 1)))).endSearch .noDevices).complete := by
  have ended := runSeq_searchPosition_of_both (s := s.scanning w n a k) fresh p
  simp only [State.scanning_answer, State.scanning_exchange] at ended
  exact ended both rest

theorem leads_scanning (p : BitPosition) (go : (s.answer n && s.answer (n + 1)) = false) :
    let dir := scanDirection s.lastDisc.toInt a p (s.answer n) (s.answer (n + 1))
    Leads (searchPosition p) (s.scanning w n a k)
      (s.scanning (w ++ (readSlot (s.answer n) ++ readSlot (s.answer (n + 1)) ++ writeSlot dir)) (n + 2)
        (setAddressBit a p dir) ((k.read p (s.answer n) (s.answer (n + 1))).steer dir)) := by
  have led := leads_searchPosition (s := s.scanning w n a k) fresh p
  simp only [State.scanning_answer, State.scanning_exchange] at led
  exact led go

/-- Step 4 over the positions ps is `scan`. -/
theorem runSeq_searchPositions (ps : List BitPosition) (rest : List MicroOp) :
    let r := scan s.lastDisc.toInt s.answer ps n a k.lz
    ∃ l : Work, l.elapsed = 0 ∧ l.lz = r.lz ∧
      let t := s.scanning (w ++ r.trace) r.samples r.srom l
      runSeq none (ps.flatMap searchPosition ++ rest) (s.scanning w n a k) =
        if r.aborted then (t.endSearch .noDevices).complete else runSeq none rest t := by
  induction ps generalizing w n a k with
  | nil => exact ⟨k, fresh, rfl, by simp [scan]⟩
  | cons p ps ih =>
    rw [List.flatMap_cons, List.append_assoc]
    cases go : s.answer n && s.answer (n + 1) with
    | true =>
      rw [scan_cons_of_both go, runSeq_scanning_of_both s w n a fresh p go]
      exact ⟨_, fresh, rfl, rfl⟩
    | false =>
      rw [scan_cons_of_not_both go, leads_scanning s w n a fresh p go]
      set dir := scanDirection s.lastDisc.toInt a p (s.answer n) (s.answer (n + 1))
      simpa only [List.append_assoc, Work.steer_read_lz] using
        ih (w ++ (readSlot (s.answer n) ++ readSlot (s.answer (n + 1)) ++ writeSlot dir)) (n + 2)
          (setAddressBit a p dir) (k := (k.read p (s.answer n) (s.answer (n + 1))).steer dir) fresh

end

theorem lineAfter_scan (disc : Int) (answer : Nat → Bool) (ps : List BitPosition) (j : Nat)
    (srom : Bytes8) (lz : Int) :
    (scan disc answer ps j srom lz).trace.foldl LineAction.lineAfter .released = .released := by
  induction ps generalizing j srom lz with
  | nil => rfl
  | cons p ps ih =>
    cases go : answer j && answer (j + 1) with
    | true =>
      rw [scan_cons_of_both go]
      rfl
    | false =>
      rw [scan_cons_of_not_both go]
      simp only [List.foldl_append, lineAfter_writeSlot, ih]

/-- Steps 5 to 7 take one cycle and end the command (R170, R243). -/
theorem runSeq_conclude {s : State} (fresh : s.work.elapsed = 0) :
    runSeq none [.conclude] s = (s.spend 1).bookkeep.report.complete := by
  have cycle : MicroOp.conclude.cycles s - s.work.elapsed = 1 := by rw [fresh]; rfl
  rw [runSeq_cons_go (by rw [cycle]; rfl), runSeq_nil]

/-- s as SEARCH_NEXT has accepted it, with the presence that its bus reset finds. -/
def State.started (s : State) : State := (s.accept .searchNext).setPresence true false

/-- A bus reset that finds presence, and the search command after it (R170 steps 2 and 3). -/
theorem leads_searchStart {s : State} {k : Nat} (floats : s.floatsAt = some k)
    (presence : s.answer (k + 1) = false) :
    ∃ l : Work, l.elapsed = 0 ∧ l.lz = -1 ∧
      Leads (busReset true ++ ([.requirePresence] ++ writeByteWire .searchRomCmd false))
        (s.accept .searchNext)
        (s.started.scanning (resetSlots k false ++ writeByteSlots s.params.searchRomCmd) (k + 2)
          s.srom l) := by
  have reset := leads_busReset (s := s.accept .searchNext) rfl rfl floats true
  have answer : (s.accept .searchNext).answer (k + 1) = false := presence
  rw [answer, ← State.setPresence_exchange] at reset
  have present := reset.append rfl fun fresh => leads_requirePresence fresh rfl
  have written := present.append rfl fun fresh =>
    leads_of_plays fresh (plays_writeByteWire _ .searchRomCmd)
  rw [State.exchange_exchange, List.append_assoc] at written
  exact ⟨{ (s.accept .searchNext).work with floated := true, presence := false }, rfl, rfl, written⟩

/-- The registers of the search at the end of a pass that goes to the last position with the candidate a
and lz: a is reported if it is valid (R170 steps 5 to 7). -/
def State.conclude (s : State) (a : Bytes8) (lz : Int) : State :=
  if crc8 a.toList 7 = a[7] then
    { s with
      srom := a, addr := a, lastDisc := BitVec.ofInt 8 lz, ldf := decide (lz = -1), sres := .deviceFound }
  else s.endSearch .crcFault

theorem State.bookkeep_report_complete {s : State} (ldf : s.ldf = false) (a : Bytes8) :
    (s.withSrom a).bookkeep.report.complete = s.complete.conclude a s.work.lz := by
  have last : (if s.work.lz = -1 then true else s.ldf) = decide (s.work.lz = -1) := by
    rw [ldf]; split_ifs with h <;> simp [h]
  unfold State.conclude State.report
  by_cases valid : validAddress a = true
  · rw [if_pos ((validAddress_iff_crc8_eq a).1 valid), ← last]
    exact congrArg State.complete (if_pos valid)
  · rw [if_neg (mt (validAddress_iff_crc8_eq a).2 valid)]
    exact congrArg State.complete (if_neg valid)

/-- The waveform of a pass that went as r says. -/
def State.searchSlots (s : State) (k : Nat) (r : Scan) : List LineAction :=
  resetSlots k false ++ writeByteSlots s.params.searchRomCmd ++ r.trace

/-- What a pass that went as r says leaves. -/
def State.searched (s : State) (k : Nat) (r : Scan) : State :=
  let w := s.searchSlots k r
  let t : State := { s.consume r.samples with
    cmd := 0x80, phase := .idle, work := Work.clear
    short := false, pres := true, line := .released
    log := w.reverse ++ s.log
    clock := s.clock + lineTime w * s.params.ticksPerUs + if r.aborted then 0 else 1 }
  if r.aborted then t.endSearch .noDevices else t.conclude r.srom r.lz

section
variable {s : State} {r : Scan}
  (line : r.trace.foldl LineAction.lineAfter .released = .released)
include line

theorem lineAfter_searchSlots (l : LineState) (k : Nat) :
    (s.searchSlots k r).foldl LineAction.lineAfter l = .released := by
  rw [State.searchSlots, List.foldl_append, List.foldl_append, lineAfter_writeByteSlots, line]

/-- The end of a pass at a position that reads both ones. -/
theorem endSearch_scanning (aborted : r.aborted = true) (k : Nat) (l : Work) :
    ((s.started.scanning (s.searchSlots k r) r.samples r.srom l).endSearch .noDevices).complete =
      s.searched k r := by
  rw [State.searched, aborted, ← lineAfter_searchSlots line s.line k]
  rfl

/-- The end of a pass after its last position. -/
theorem conclude_scanning (aborted : r.aborted = false) (ldf : s.ldf = false) (k : Nat) {l : Work}
    (fresh : l.elapsed = 0) (lz : l.lz = r.lz) :
    runSeq none [.conclude] (s.started.scanning (s.searchSlots k r) r.samples r.srom l) =
      s.searched k r := by
  have concluded := State.bookkeep_report_complete
    (s := (s.started.exchange (s.searchSlots k r) r.samples l).spend 1) ldf r.srom
  rw [runSeq_conclude (by exact fresh), State.searched, aborted,
    ← lineAfter_searchSlots line s.line k, ← lz]
  exact concluded

end

/-- SEARCH_NEXT with presence, over any list of positions (R170). -/
theorem runSeq_searchPass {s : State} {k : Nat} (ps : List BitPosition) (ldf : s.ldf = false)
    (floats : s.floatsAt = some k) (presence : s.answer (k + 1) = false) :
    runSeq none (busReset true ++ ([.requirePresence] ++ (writeByteWire .searchRomCmd false ++
        (ps.flatMap searchPosition ++ [.conclude])))) (s.accept .searchNext) =
      s.searched k (scan s.lastDisc.toInt s.answer ps (k + 2) s.srom (-1)) := by
  obtain ⟨l, fresh, start, leads⟩ := leads_searchStart floats presence
  have started := leads (ps.flatMap searchPosition ++ [.conclude])
  simp only [List.append_assoc] at started
  have scanned := runSeq_searchPositions s.started
    (resetSlots k false ++ writeByteSlots s.params.searchRomCmd) (k + 2) s.srom fresh ps [.conclude]
  have same : scan s.started.lastDisc.toInt s.started.answer ps (k + 2) s.srom (-1) =
      scan s.lastDisc.toInt s.answer ps (k + 2) s.srom (-1) := rfl
  rw [start, same] at scanned
  have line := lineAfter_scan s.lastDisc.toInt s.answer ps (k + 2) s.srom (-1)
  generalize scan s.lastDisc.toInt s.answer ps (k + 2) s.srom (-1) = r at scanned line ⊢
  obtain ⟨l', fresh', lz, run⟩ := scanned
  rw [started, run]
  cases aborted : r.aborted with
  | true => exact endSearch_scanning line aborted k l'
  | false => exact conclude_scanning line aborted ldf k fresh' lz

/-! ### The four outcomes -/

/-- `lz` is a position or -1 throughout (R39). -/
theorem scan_lz_legal (disc : Int) (answer : Nat → Bool) (ps : List BitPosition) (j : Nat)
    (srom : Bytes8) {lz : Int} (legal : -1 ≤ lz ∧ lz ≤ 63) :
    -1 ≤ (scan disc answer ps j srom lz).lz ∧ (scan disc answer ps j srom lz).lz ≤ 63 := by
  induction ps generalizing j srom lz with
  | nil => exact legal
  | cons p ps ih =>
    cases go : answer j && answer (j + 1) with
    | true =>
      rw [scan_cons_of_both go]
      exact legal
    | false =>
      rw [scan_cons_of_not_both go]
      refine ih _ _ ?_
      unfold scanLz
      split
      · omega
      · exact legal

/-- LASTDISC holds a legal `lz` as the signed integer it is (R32). -/
theorem toInt_ofInt_of_legal {lz : Int} (legal : -1 ≤ lz ∧ lz ≤ 63) :
    (BitVec.ofInt 8 lz).toInt = lz :=
  BitVec.toInt_ofInt_eq_self (by decide) (by omega) (by omega)

theorem ofInt_eq_none_iff {lz : Int} (legal : -1 ≤ lz ∧ lz ≤ 63) :
    BitVec.ofInt 8 lz = 0xFF ↔ lz = -1 := by
  rw [← BitVec.toInt_inj, toInt_ofInt_of_legal legal]
  rfl

/-- What SEARCH_NEXT leaves: with nothing scheduled, the block at the end of the command. -/
def State.pass (s : State) : State := runCommand .searchNext (actionsOf .searchNext) s

theorem exec_searchNext (s : State) : exec .searchNext s = .next s.pass :=
  exec_eq_runCommand .searchNext s

theorem State.pass_eq {s t : State} (h : exec .searchNext s = .next t) : s.pass = t := by
  rw [exec_searchNext] at h
  cases h
  rfl

/-- What SEARCH_INIT does (R165). -/
theorem exec_searchInit {s : State} (none : s.pending = []) :
    exec .searchInit s = .next { s with
      cmd := 0x70, phase := .idle, work := Work.clear
      lastDisc := 0xFF, ldf := false, srom := Bytes8.zero, sres := .none
      clock := s.clock + 1 } := by
  rw [exec_of_no_events none]
  rfl

/-- What SEARCH_NEXT does with LDF = 1 (R170 step 1). -/
theorem exec_searchNext_exhausted {s : State} (none : s.pending = []) (ldf : s.ldf = true) :
    exec .searchNext s = .next { s with
      cmd := 0x80, phase := .idle, work := Work.clear
      lastDisc := 0xFF, ldf := false, srom := Bytes8.zero, sres := .exhausted
      clock := s.clock + 1 } := by
  have cycle : MicroOp.checkLastDevice.cycles (s.accept .searchNext) = 1 := by
    simp [MicroOp.cycles, ldf]
  rw [exec_of_no_events none, actionsOf_searchNext, runSeq_none_checkLastDevice, State.accept_ldf, ldf,
    if_pos rfl, cycle]
  rfl

/-- What SEARCH_NEXT does on a line that never floats high (R201 cause 2). -/
theorem exec_searchNext_shorted {s : State} (none : s.pending = []) (ldf : s.ldf = false)
    (shorted : s.floatsAt = Option.none) :
    exec .searchNext s = .next { s.consume 125 with
      cmd := 0x80, phase := .idle, work := Work.clear
      short := true, pres := false, line := .released
      lastDisc := 0xFF, ldf := false, srom := Bytes8.zero, sres := .noDevices
      log := shortedSlots.reverse ++ s.log
      clock := s.clock + 250 * s.params.ticksPerUs } := by
  rw [exec_searchNext_of_not_last none ldf, searchNextFromStep2,
    runSeq_busReset_of_shorted (s := s.accept .searchNext) rfl rfl shorted]
  simp only [State.exchange, State.play, lineTime_shortedSlots, lineAfter_shortedSlots]
  rfl

/-- What SEARCH_NEXT does after a bus reset without presence (R170 step 2, R201 cause 1). -/
theorem exec_searchNext_absent {s : State} {k : Nat} (none : s.pending = []) (ldf : s.ldf = false)
    (floats : s.floatsAt = some k) (absent : s.answer (k + 1) = true) :
    exec .searchNext s = .next { s.consume (k + 2) with
      cmd := 0x80, phase := .idle, work := Work.clear
      short := false, pres := false, line := .released
      lastDisc := 0xFF, ldf := false, srom := Bytes8.zero, sres := .noDevices
      log := (resetSlots k true).reverse ++ s.log
      clock := s.clock + (2 * (k + 1) + 1055) * s.params.ticksPerUs } := by
  have reset := leads_busReset (s := s.accept .searchNext) rfl rfl floats true
  have answer : (s.accept .searchNext).answer (k + 1) = true := absent
  rw [answer] at reset
  rw [exec_searchNext_of_not_last none ldf, searchNextFromStep2, reset, List.singleton_append,
    runSeq_requirePresence_of_absent rfl rfl]
  simp only [State.exchange, State.play, lineTime_resetSlots, lineAfter_resetSlots]
  rfl

/-- What SEARCH_NEXT does after a bus reset with presence (R170 steps 3 to 7). -/
theorem exec_searchNext_present {s : State} {k : Nat} (none : s.pending = []) (ldf : s.ldf = false)
    (floats : s.floatsAt = some k) (presence : s.answer (k + 1) = false) :
    exec .searchNext s =
      .next (s.searched k (scan s.lastDisc.toInt s.answer positions (k + 2) s.srom (-1))) :=
  (exec_searchNext_of_not_last none ldf).trans
    (congrArg Host.Outcome.next (runSeq_searchPass positions ldf floats presence))

/-- What a pass that began in s leaves, by its outcome: the initial SearchState and ADDR as it was, or a
valid address in SROM and ADDR (R170, R171). -/
inductive Reported (s t : State) : Prop
  | other (outcome : t.sres ≠ .none ∧ t.sres ≠ .deviceFound)
      (initial : t.lastDisc = 0xFF ∧ t.ldf = false ∧ t.srom = Bytes8.zero) (addr : t.addr = s.addr)
  | found (outcome : t.sres = .deviceFound) (addr : t.addr = t.srom) (valid : validAddress t.addr = true)
      (last : t.ldf = true ↔ t.lastDisc = 0xFF) (presence : t.pres = true ∧ t.short = false)

theorem State.conclude_reported {s t : State} (addr : t.addr = s.addr)
    (presence : t.pres = true ∧ t.short = false) (a : Bytes8) {lz : Int}
    (legal : -1 ≤ lz ∧ lz ≤ 63) :
    Reported s (t.conclude a lz) := by
  unfold State.conclude
  split
  · next valid =>
    exact .found rfl rfl ((validAddress_iff_crc8_eq a).2 valid)
      (by simpa using (ofInt_eq_none_iff legal).symm) presence
  · exact .other ⟨nofun, nofun⟩ ⟨rfl, rfl, rfl⟩ addr

theorem State.searched_reported (s : State) (k : Nat) {r : Scan} (legal : -1 ≤ r.lz ∧ r.lz ≤ 63) :
    Reported s (s.searched k r) := by
  unfold State.searched
  cases r.aborted with
  | true => exact .other ⟨nofun, nofun⟩ ⟨rfl, rfl, rfl⟩ rfl
  | false =>
    refine State.conclude_reported ?_ ?_ r.srom legal
    · rfl
    · exact ⟨rfl, rfl⟩

theorem Reported.sres_ne_none {s t : State} (h : Reported s t) : t.sres ≠ .none := by
  cases h with
  | other outcome => exact outcome.1
  | found outcome => rw [outcome]; nofun

/-- The five ways through SEARCH_NEXT (R170). -/
theorem State.pass_reported {s : State} (none : s.pending = []) : Reported s s.pass := by
  cases ldf : s.ldf with
  | true =>
    rw [State.pass_eq (exec_searchNext_exhausted none ldf)]
    exact .other ⟨nofun, nofun⟩ ⟨rfl, rfl, rfl⟩ rfl
  | false =>
    cases floats : s.floatsAt with
    | none =>
      rw [State.pass_eq (exec_searchNext_shorted none ldf floats)]
      exact .other ⟨nofun, nofun⟩ ⟨rfl, rfl, rfl⟩ rfl
    | some k =>
      cases answer : s.answer (k + 1) with
      | true =>
        rw [State.pass_eq (exec_searchNext_absent none ldf floats answer)]
        exact .other ⟨nofun, nofun⟩ ⟨rfl, rfl, rfl⟩ rfl
      | false =>
        rw [State.pass_eq (exec_searchNext_present none ldf floats answer)]
        exact s.searched_reported k (scan_lz_legal _ _ _ _ _ (by decide))

theorem State.pass_phase {s : State} (none : s.pending = []) : s.pass.phase = .idle := by
  rw [State.pass, runCommand_of_no_events none]
  exact runSeq_none_phase _ _

/-! ### The search state of R160 -/

/-- A run leaves the phase of the running command, or IDLE. -/
theorem runSeq_phase (g : Option Nat) (ops : List MicroOp) (s : State) :
    (runSeq g ops s).phase = .idle ∨ (runSeq g ops s).phase = s.phase :=
  runSeq_induct (P := fun t => t.phase = .idle ∨ t.phase = s.phase) (fun _ _ h => h)
    (fun t op h => by rwa [(perform_frame op t).phase]) (fun _ _ _ h => h) (fun _ _ => .inl rfl)
    g ops s (.inr rfl)

theorem State.searchState_of_idle {s : State} (idle : s.phase = .idle) :
    s.searchState = s.sres.state := by
  simp [State.searchState, idle]

/-- SRES other than NONE is one of the four outcomes (R28, R160). -/
theorem SearchResult.state_of_ne_none {r : SearchResult} (h : r ≠ .none) :
    r.state = .deviceFound ∨ r.state = .noDevices ∨ r.state = .exhausted ∨ r.state = .crcFault := by
  cases r <;> simp_all [SearchResult.state]

/-! ### The answers of one pass -/

section
variable {s : State} {n : Nat} {b : Bool} {l : List Bool}

theorem State.answer_of_drop (h : s.answers.drop n = b :: l) : s.answer n = b := by
  have next : s.answers[n]? = some b := by rw [← List.head?_drop, h, List.head?_cons]
  rw [State.answer, List.getD_eq_getElem?_getD, next, Option.getD_some]

theorem drop_succ_of_drop {α : Type} {x : α} {l m : List α} (h : l.drop n = x :: m) :
    l.drop (n + 1) = m := by
  rw [← List.tail_drop, h, List.tail_cons]

end

/-- The answers to a bus reset that floats at poll sample k. -/
theorem State.resetAnswers {s : State} {k : Nat} {r : Bool} {l : List Bool} (h125 : k < 125)
    (h : s.answers = List.replicate k false ++ true :: r :: l) :
    s.floatsAt = some k ∧ s.answer (k + 1) = r ∧ s.answers.drop (k + 2) = l := by
  have high : s.answers.drop k = true :: r :: l := by rw [h, List.drop_left' (by simp)]
  have presence := drop_succ_of_drop high
  refine ⟨(s.floatsAt_eq_some_iff k).2 ⟨h125, State.answer_of_drop high, fun i low => ?_⟩,
    State.answer_of_drop presence, drop_succ_of_drop presence⟩
  have polled : s.answers.drop i = false :: (List.replicate (k - i - 1) false ++ true :: r :: l) := by
    rw [h, List.drop_append_of_le_length (by simp; omega), List.drop_replicate,
      show k - i = k - i - 1 + 1 by omega, List.replicate_succ]
    rfl
  exact State.answer_of_drop polled

/-- A pass whose bus reset finds no presence (R175). -/
theorem pass_absent {s : State} {k : Nat} {more : List Bool} (none : s.pending = [])
    (ldf : s.ldf = false) (h125 : k < 125)
    (answers : s.answers = List.replicate k false ++ [true, true] ++ more) :
    s.pass.sres = .noDevices ∧ s.pass.pres = false ∧ s.pass.short = false ∧ s.pass.ldf = false ∧
      s.pass.pending = [] ∧ s.pass.answers = more := by
  obtain ⟨floats, absent, left⟩ := State.resetAnswers (s := s) h125 (by simpa using answers)
  rw [State.pass_eq (exec_searchNext_absent none ldf floats absent)]
  exact ⟨rfl, rfl, rfl, rfl, none, left⟩

/-! ### A pass that the answers steer to an address -/

/-- `lz` after the positions ps, `zero` being those where 0 is chosen at a conflict (R163). -/
def lastZero (zero : BitPosition → Bool) (ps : List BitPosition) (lz : Int) : Int :=
  ps.foldl (fun lz p => if zero p then (p.val : Int) else lz) lz

section
variable {zero : BitPosition → Bool} {ps : List BitPosition} {lz : Int}

theorem lastZero_of_none (h : ∀ p ∈ ps, zero p = false) : lastZero zero ps lz = lz := by
  induction ps with
  | nil => rfl
  | cons p ps ih =>
    obtain ⟨here, later⟩ := List.forall_mem_cons.1 h
    rw [lastZero, List.foldl_cons, here]
    exact ih later

theorem lastZero_of_last {p : BitPosition} (increasing : ps.Pairwise (· < ·)) (mem : p ∈ ps)
    (here : zero p = true) (later : ∀ q, p < q → zero q = false) : lastZero zero ps lz = p.val := by
  obtain ⟨before, after, rfl⟩ := List.append_of_mem mem
  obtain ⟨above, -⟩ := List.pairwise_cons.1 (List.pairwise_append.1 increasing).2.1
  rw [lastZero, List.foldl_append, List.foldl_cons, here]
  exact lastZero_of_none fun q mem => later q (above q mem)

end

/-- The positions, each with its bit b, its bit cb and the direction that the address a has there: no
position reads both ones, and step 4 takes that direction (R170). -/
def Steers (disc : Int) (srom : Bytes8) (first second : BitPosition → Bool) (a : Bytes8) : Prop :=
  ∀ p, (first p && second p) = false ∧ scanDirection disc srom p (first p) (second p) = addressBit a p

/-- Is p a conflict at which a has the 0 chosen? -/
def zeroChosen (first second : BitPosition → Bool) (a : Bytes8) (p : BitPosition) : Bool :=
  !first p && !second p && !addressBit a p

theorem scanLz_eq {first second : BitPosition → Bool} {p : BitPosition}
    (go : (first p && second p) = false) (a : Bytes8) (lz : Int) :
    scanLz p (first p) (second p) (addressBit a p) lz =
      if zeroChosen first second a p then (p.val : Int) else lz := by
  unfold scanLz zeroChosen
  cases b : first p <;> cases cb : second p
  case true.true => rw [b, cb] at go; cases go
  all_goals simp

theorem scanDirection_congr {a c : Bytes8} {p : BitPosition} (h : addressBit a p = addressBit c p)
    (disc : Int) (b cb : Bool) : scanDirection disc a p b cb = scanDirection disc c p b cb := by
  simp only [scanDirection, chosen, h]

/-- A scan whose answers steer it to the address a goes to the last position with the bits of a. -/
theorem scan_of_steers {s : State} {disc : Int} {old a : Bytes8} {first second : BitPosition → Bool}
    (steers : Steers disc old first second a) {ps : List BitPosition} {j : Nat} {srom : Bytes8}
    (lz : Int) {more : List Bool} (distinct : ps.Nodup)
    (answers : s.answers.drop j = (ps.flatMap fun p => [first p, second p]) ++ more)
    (kept : ∀ p ∈ ps, addressBit srom p = addressBit old p) :
    let r := scan disc s.answer ps j srom lz
    r.aborted = false ∧ s.answers.drop r.samples = more ∧
      r.lz = lastZero (zeroChosen first second a) ps lz ∧
      (∀ p ∈ ps, addressBit r.srom p = addressBit a p) ∧
      ∀ p ∉ ps, addressBit r.srom p = addressBit srom p := by
  induction ps generalizing j srom lz with
  | nil => exact ⟨rfl, answers, rfl, nofun, fun _ _ => rfl⟩
  | cons p ps ih =>
    obtain ⟨other, distinct⟩ := List.nodup_cons.1 distinct
    obtain ⟨here, later⟩ := List.forall_mem_cons.1 kept
    obtain ⟨go, direction⟩ := steers p
    have b : s.answer j = first p := State.answer_of_drop answers
    have cb : s.answer (j + 1) = second p := State.answer_of_drop (drop_succ_of_drop answers)
    rw [scan_cons_of_not_both (by rw [b, cb, go]), b, cb, scanDirection_congr here, direction]
    simp only [scanLz_eq go a]
    obtain ⟨aborted, samples, lz', set, unset⟩ := ih (srom := setAddressBit srom p (addressBit a p))
      (if zeroChosen first second a p then (p.val : Int) else lz) distinct
      (drop_succ_of_drop (drop_succ_of_drop answers))
      (fun q mem => by
        rw [addressBit_setAddressBit_of_ne _ _ _ _ (ne_of_mem_of_not_mem mem other), later q mem])
    refine ⟨aborted, samples, lz', List.forall_mem_cons.2 ⟨?_, set⟩, fun q out => ?_⟩
    · rw [unset p other, addressBit_setAddressBit_self]
    · obtain ⟨ne, out⟩ := not_or.1 (mt List.mem_cons.2 out)
      rw [unset q out, addressBit_setAddressBit_of_ne _ _ _ _ ne]

/-- The answers to a pass: the line floats at poll sample k, presence, then the two bits of the 64
positions. -/
def passReads (k : Nat) (first second : BitPosition → Bool) : List Bool :=
  List.replicate k false ++ [true, false] ++ positions.flatMap fun p => [first p, second p]

/-- A pass whose answers steer it to the address a ends with the candidate a. -/
theorem pass_of_steers {s : State} {a : Bytes8} {k : Nat} {first second : BitPosition → Bool}
    {more : List Bool} (none : s.pending = []) (ldf : s.ldf = false) (h125 : k < 125)
    (answers : s.answers = passReads k first second ++ more)
    (steers : Steers s.lastDisc.toInt s.srom first second a) :
    ∃ r : Scan, s.pass = s.searched k r ∧ r.aborted = false ∧ s.answers.drop r.samples = more ∧
      r.lz = lastZero (zeroChosen first second a) positions (-1) ∧ r.srom = a := by
  obtain ⟨floats, presence, left⟩ := State.resetAnswers (s := s) (k := k) (r := false)
    (l := (positions.flatMap fun p => [first p, second p]) ++ more) h125 (by simp [answers, passReads])
  obtain ⟨aborted, samples, lz, set, -⟩ := scan_of_steers steers (ps := positions) (-1)
    (List.nodup_finRange 64) left fun _ _ => rfl
  exact ⟨_, State.pass_eq (exec_searchNext_present none ldf floats presence), aborted, samples, lz,
    eq_of_addressBit_eq _ _ fun p => set p (mem_positions p)⟩

/-- t is a block in which a pass has reported a valid address a with `lz`, the answers `more` being still
to come (R170). -/
structure Found (t : State) (a : Bytes8) (lz : Int) (more : List Bool) : Prop where
  pending : t.pending = []
  sres : t.sres = .deviceFound
  addr : t.addr = a
  srom : t.srom = a
  lastDisc : t.lastDisc = BitVec.ofInt 8 lz
  ldf : t.ldf = decide (lz = -1)
  answers : t.answers = more

theorem Found.lastDisc_toInt {t : State} {a : Bytes8} {lz : Int} {more : List Bool}
    (found : Found t a lz more) (legal : -1 ≤ lz ∧ lz ≤ 63) : t.lastDisc.toInt = lz := by
  rw [found.lastDisc, toInt_ofInt_of_legal legal]

section
variable {s : State} {a : Bytes8} {k : Nat} {first second : BitPosition → Bool} {more : List Bool}
  (none : s.pending = []) (ldf : s.ldf = false) (h125 : k < 125)
  (answers : s.answers = passReads k first second ++ more)
  (steers : Steers s.lastDisc.toInt s.srom first second a)
include none ldf h125 answers steers

theorem pass_found (valid : validAddress a = true) :
    Found s.pass a (lastZero (zeroChosen first second a) positions (-1)) more := by
  obtain ⟨r, e, aborted, samples, lz, rfl⟩ := pass_of_steers none ldf h125 answers steers
  rw [e, ← lz, State.searched, aborted, if_neg (by decide), State.conclude,
    if_pos ((validAddress_iff_crc8_eq _).1 valid)]
  exact ⟨none, rfl, rfl, rfl, rfl, rfl, samples⟩

theorem pass_faulty (invalid : validAddress a = false) :
    s.pass.sres = .crcFault ∧ s.pass.addr = s.addr ∧ s.pass.srom = Bytes8.zero ∧
      s.pass.lastDisc = 0xFF ∧ s.pass.ldf = false := by
  obtain ⟨r, e, aborted, samples, lz, rfl⟩ := pass_of_steers none ldf h125 answers steers
  rw [e, State.searched, aborted, if_neg (by decide), State.conclude,
    if_neg (mt (validAddress_iff_crc8_eq _).2 (Bool.eq_false_iff.1 invalid))]
  exact ⟨rfl, rfl, rfl, rfl, rfl⟩

end

/-! ### A line stuck low -/

/-- No position reads 1. -/
def allLow (_ : BitPosition) : Bool := false

theorem passReads_allLow (k : Nat) :
    passReads k allLow allLow = List.replicate k false ++ [true, false] ++ List.replicate 128 false := by
  have low : (positions.flatMap fun p => [allLow p, allLow p]) = List.replicate 128 false := by decide
  rw [passReads, low]

theorem addressBit_zero (p : BitPosition) : addressBit Bytes8.zero p = false := by
  revert p; decide

/-- From the initial SearchState a line stuck low steers to the all-zero address (R172). -/
theorem steers_allLow_first (srom : Bytes8) : Steers (-1) srom allLow allLow Bytes8.zero := fun p =>
  ⟨rfl, by rw [addressBit_zero]; exact chosen_none srom p⟩

theorem lastZero_allLow :
    lastZero (zeroChosen allLow allLow Bytes8.zero) positions (-1) = 63 :=
  lastZero_of_last (p := 63) (List.pairwise_lt_finRange 64) (mem_positions 63)
    (by simp [zeroChosen, allLow, addressBit_zero])
    fun q above => absurd above (not_lt.2 (Fin.le_last q))

/-- Then LASTDISC = 63 steers it to the address with bit 63 alone (R172). -/
theorem steers_allLow_second :
    Steers 63 Bytes8.zero allLow allLow (setAddressBit Bytes8.zero 63 true) := by
  refine fun p => ⟨rfl, ?_⟩
  rw [allLow, scanDirection_conflict]
  rcases (Fin.le_last p).eq_or_lt with rfl | before
  · exact (chosen_of_eq rfl).trans (addressBit_setAddressBit_self _ _ _).symm
  · rw [addressBit_setAddressBit_of_ne _ 63 p _ before.ne]
    exact chosen_of_lt (Int.ofNat_lt.2 before)

theorem validAddress_zero : validAddress Bytes8.zero = true := by
  have step : crc8Step 0#8 0#8 = 0#8 := crc8Step_zero_zero
  rw [validAddress_iff_crc8_zero]
  simp [crc8, Bytes8.zero, step]

theorem validAddress_bit63 : validAddress (setAddressBit Bytes8.zero 63 true) = false := by
  have flipped := validAddressesDifferInTwoBits.2 Bytes8.zero 63 validAddress_zero
  rwa [addressBit_zero] at flipped

/-! ### A bus of devices (R164) -/

/-- a and b have the same bits before position p. -/
def AgreeBefore (p : BitPosition) (a b : Bytes8) : Prop :=
  ∀ q : BitPosition, q < p → addressBit a q = addressBit b q

/-- p is the first position where a and b differ, and a has the 0 there. -/
def BranchesAt (p : BitPosition) (a b : Bytes8) : Prop :=
  AgreeBefore p a b ∧ addressBit a p = false ∧ addressBit b p = true

theorem AgreeBefore.refl (p : BitPosition) (a : Bytes8) : AgreeBefore p a a := fun _ _ => rfl

theorem AgreeBefore.symm {p : BitPosition} {a b : Bytes8} (h : AgreeBefore p a b) : AgreeBefore p b a :=
  fun q before => (h q before).symm

theorem AgreeBefore.trans {p : BitPosition} {a b c : Bytes8} (h : AgreeBefore p a b)
    (k : AgreeBefore p b c) : AgreeBefore p a c :=
  fun q before => (h q before).trans (k q before)

/-- Bits that agree before q agree before an earlier p. -/
theorem AgreeBefore.of_lt {p q : BitPosition} {a b : Bytes8} (h : AgreeBefore q a b)
    (before : p < q) : AgreeBefore p a b :=
  fun r lt => h r (lt.trans before)

theorem takesPart_iff (d : Bytes8) (p : BitPosition) (a : Bytes8) :
    takesPart d p a = true ↔ AgreeBefore p a d := by
  simp only [takesPart, AgreeBefore, List.all_eq_true, Bool.or_eq_true, decide_eq_true_eq, beq_iff_eq]
  exact ⟨fun h q lt => (h q (mem_positions q)).resolve_left (not_le.2 lt),
    fun h q _ => (le_or_gt p q).imp id (h q)⟩

/-- The first slot reads 0 exactly when a device that takes part has the bit 0 (R164). -/
theorem firstSlot_eq_false_iff (devices : List Bytes8) (d : Bytes8) (p : BitPosition) :
    firstSlot devices d p = false ↔
      ∃ b ∈ devices, AgreeBefore p b d ∧ addressBit b p = false := by
  simp only [firstSlot, List.all_eq_false, List.mem_filter, takesPart_iff, and_assoc,
    Bool.not_eq_true]

/-- The second slot reads 0 exactly when a device that takes part has the bit 1 (R164). -/
theorem secondSlot_eq_false_iff (devices : List Bytes8) (d : Bytes8) (p : BitPosition) :
    secondSlot devices d p = false ↔
      ∃ b ∈ devices, AgreeBefore p b d ∧ addressBit b p = true := by
  simp only [secondSlot, List.all_eq_false, List.mem_filter, takesPart_iff, and_assoc,
    Bool.not_eq_true, Bool.not_eq_false']

section
variable {devices : List Bytes8} {a b : Bytes8} {p : BitPosition} {old : Bytes8} {disc : Int}

/-- A device that takes part sends its bit and the complement: neither slot reads 1 over its 0. -/
theorem addressBit_of_firstSlot (mem : a ∈ devices) (reads : firstSlot devices a p = true) :
    addressBit a p = true := by
  by_contra zero
  refine absurd ((firstSlot_eq_false_iff devices a p).2 ⟨a, mem, .refl p a, ?_⟩) (by simp [reads])
  simpa using zero

theorem addressBit_of_secondSlot (mem : a ∈ devices) (reads : secondSlot devices a p = true) :
    addressBit a p = false := by
  by_contra one
  refine absurd ((secondSlot_eq_false_iff devices a p).2 ⟨a, mem, .refl p a, ?_⟩) (by simp [reads])
  simpa using one

/-- With LASTDISC disc and the bits `old` of the last pass, R163 chooses the bit of a at every conflict
that a takes part in. -/
def Chooses (devices : List Bytes8) (disc : Int) (old a : Bytes8) : Prop :=
  ∀ p, firstSlot devices a p = false → secondSlot devices a p = false →
    chosen disc old p = addressBit a p

/-- Then the bus steers the pass to the device a. -/
theorem Chooses.steers (h : Chooses devices disc old a) (mem : a ∈ devices) :
    Steers disc old (firstSlot devices a) (secondSlot devices a) a := by
  intro p
  cases first : firstSlot devices a p <;> cases second : secondSlot devices a p
  case false.false => exact ⟨rfl, h p first second⟩
  case true.false => exact ⟨rfl, (addressBit_of_firstSlot mem first).symm⟩
  case false.true => exact ⟨rfl, (addressBit_of_secondSlot mem second).symm⟩
  case true.true =>
    exact nomatch (addressBit_of_firstSlot mem first).symm.trans (addressBit_of_secondSlot mem second)

/-- `lz` at the end of a pass that finds a: the last conflict at which a has the 0, or -1. -/
def lastConflict (devices : List Bytes8) (a : Bytes8) : Int :=
  lastZero (zeroChosen (firstSlot devices a) (secondSlot devices a) a) positions (-1)

/-- The conflicts at which a has the 0 are the positions where another device branches off with the 1. -/
theorem zeroChosen_iff (mem : a ∈ devices) :
    zeroChosen (firstSlot devices a) (secondSlot devices a) a p = true ↔
      ∃ b ∈ devices, BranchesAt p a b := by
  simp only [zeroChosen, Bool.and_eq_true, Bool.not_eq_true']
  constructor
  · rintro ⟨⟨-, second⟩, bit⟩
    obtain ⟨b, mem, agree, one⟩ := (secondSlot_eq_false_iff devices a p).1 second
    exact ⟨b, mem, agree.symm, bit, one⟩
  · rintro ⟨b, mem', agree, bit, one⟩
    have first := (firstSlot_eq_false_iff devices a p).2 ⟨a, mem, .refl p a, bit⟩
    have second := (secondSlot_eq_false_iff devices a p).2 ⟨b, mem', agree.symm, one⟩
    exact ⟨⟨first, second⟩, bit⟩

/-- The greatest address leaves no conflict with the 0 chosen. -/
theorem lastConflict_of_greatest (mem : a ∈ devices) (greatest : ∀ b ∈ devices, ¬ lexBefore a b) :
    lastConflict devices a = -1 :=
  lastZero_of_none fun p _ => Bool.eq_false_iff.2 fun conflict =>
    have ⟨b, mem, branches⟩ := (zeroChosen_iff mem).1 conflict
    greatest b mem ⟨p, branches⟩

/-- From the initial SearchState the least address is the one chosen. -/
theorem chooses_least (least : ∀ b ∈ devices, ¬ lexBefore b a) (old : Bytes8) :
    Chooses devices (-1) old a := by
  intro p first _
  obtain ⟨b, mem, agree, zero⟩ := (firstSlot_eq_false_iff devices a p).1 first
  rw [chosen_none]
  by_contra one
  exact least b mem ⟨p, agree, zero, by simpa using (Ne.symm one)⟩

section
variable (branches : BranchesAt p a b) (next : ∀ c ∈ devices, lexBefore a c → ¬ lexBefore c b)
include branches next

/-- The last conflict at which a has the 0 is where the next address b branches off. -/
theorem lastConflict_of_next (mem : a ∈ devices) (mem' : b ∈ devices) :
    lastConflict devices a = p.val := by
  obtain ⟨agree, zero, one⟩ := branches
  refine lastZero_of_last (List.pairwise_lt_finRange 64) (mem_positions p)
    ((zeroChosen_iff mem).2 ⟨b, mem', agree, zero, one⟩) fun q after =>
      Bool.eq_false_iff.2 fun conflict => ?_
  obtain ⟨c, mem, agree', branch⟩ := (zeroChosen_iff mem).1 conflict
  have before : BranchesAt p c b :=
    ⟨(agree'.of_lt after).symm.trans agree, (agree' p after).symm.trans zero, one⟩
  exact next c mem ⟨q, agree', branch⟩ ⟨p, before⟩

/-- LASTDISC where the next address b branches off, and the bits of a, choose b. -/
theorem chooses_next : Chooses devices p.val a b := by
  obtain ⟨agree, zero, one⟩ := branches
  intro q first _
  rcases lt_trichotomy q p with before | rfl | after
  · rw [chosen_of_lt (Int.ofNat_lt.2 before), agree q before]
  · rw [chosen_of_eq rfl, one]
  · obtain ⟨c, mem, agree', zero'⟩ := (firstSlot_eq_false_iff devices b q).1 first
    rw [chosen_of_gt (Int.ofNat_lt.2 after)]
    by_contra one'
    have past : BranchesAt p a c :=
      ⟨agree.trans (agree'.of_lt after).symm, zero, (agree' p after).trans one⟩
    exact next c mem ⟨p, past⟩ ⟨q, agree', zero', by simpa using (Ne.symm one')⟩

end

/-- A pass on a bus that obeys the pruning assumption finds the device chosen. -/
theorem pass_on_bus {s : State} {k : Nat} {more : List Bool} (none : s.pending = [])
    (ldf : s.ldf = false) (h125 : k < 125) (answers : s.answers = passAnswers devices k a ++ more)
    (mem : a ∈ devices) (valid : validAddress a = true)
    (chooses : Chooses devices s.lastDisc.toInt s.srom a) :
    Found s.pass a (lastConflict devices a) more :=
  pass_found none ldf h125 answers (chooses.steers mem) valid

end

/-! ### The order of addresses (R173) -/

/-- The bit sequence of an address, ordered from position 0 upward with 0 before 1. -/
def bitSequence (a : Bytes8) : Lex (BitPosition → Bool) := toLex (addressBit a)

theorem lexBefore_iff_lt (a b : Bytes8) : lexBefore a b ↔ bitSequence a < bitSequence b :=
  exists_congr fun _ => and_congr .rfl Bool.lt_iff.symm

theorem bitSequence_injective : Function.Injective bitSequence := fun a b h =>
  eq_of_addressBit_eq a b (congrFun (toLex_inj.1 h))

theorem not_lexBefore_self (a : Bytes8) : ¬ lexBefore a a := by
  rw [lexBefore_iff_lt]; exact lt_irrefl _

theorem not_lexBefore_of_lexBefore {a b : Bytes8} (h : lexBefore a b) : ¬ lexBefore b a := by
  rw [lexBefore_iff_lt] at h ⊢; exact h.asymm

/-- Distinct addresses can be put in increasing order. -/
theorem exists_increasing {devices : List Bytes8} (distinct : devices.Nodup) :
    ∃ order : List Bytes8, order.Perm devices ∧ order.Pairwise lexBefore := by
  set order := devices.mergeSort (fun a b => decide (bitSequence a ≤ bitSequence b))
  have perm : order.Perm devices := List.mergeSort_perm _ _
  have sorted := List.pairwise_mergeSort (le := fun a b => decide (bitSequence a ≤ bitSequence b))
    (by simpa using fun a b c => le_trans) (by simpa using fun a b => le_total _ _) devices
  refine ⟨order, perm, (sorted.and (perm.nodup_iff.2 distinct)).imp fun {a b} h => ?_⟩
  obtain ⟨le, ne⟩ := h
  exact (lexBefore_iff_lt a b).2 (lt_of_le_of_ne (of_decide_eq_true le) (bitSequence_injective.ne ne))

/-! ### The enumeration of a bus (R173) -/

section
variable {order : List Bytes8} (increasing : order.Pairwise lexBefore)
include increasing

theorem lt_of_lexBefore_getElem {i j : Nat} {hi : i < order.length} {hj : j < order.length}
    (h : lexBefore order[i] order[j]) : i < j := by
  by_contra other
  rcases (not_lt.1 other).eq_or_lt with rfl | gt
  · exact not_lexBefore_self _ h
  · exact not_lexBefore_of_lexBefore h (List.pairwise_iff_getElem.1 increasing j i hj hi gt)

/-- No address lies between two neighbours. -/
theorem not_lexBefore_between {n : Nat} (h : n + 1 < order.length) {c : Bytes8} (mem : c ∈ order)
    (after : lexBefore order[n] c) : ¬ lexBefore c order[n + 1] := by
  obtain ⟨i, hi, rfl⟩ := List.getElem_of_mem mem
  intro before
  have above := lt_of_lexBefore_getElem increasing after
  have below := lt_of_lexBefore_getElem increasing before
  omega

end

/-- A bus of valid devices, which `order` lists in increasing order, and the poll sample at which the line
floats in each pass. -/
structure Bus (devices order : List Bytes8) (polls : Nat → Nat) : Prop where
  perm : order.Perm devices
  increasing : order.Pairwise lexBefore
  valid : ∀ a ∈ devices, validAddress a = true
  floats : ∀ n, polls n < 125

/-- The answers to the passes from the n-th on. -/
def passesFrom (devices order : List Bytes8) (polls : Nat → Nat) (n : Nat) : List Bool :=
  ((order.mapIdx fun n a => passAnswers devices (polls n) a).drop n).flatten

/-- s is a block whose next pass is the n-th of the enumeration. -/
structure Awaits (devices order : List Bytes8) (polls : Nat → Nat) (more : List Bool) (n : Nat)
    (h : n < order.length) (s : State) : Prop where
  pending : s.pending = []
  ldf : s.ldf = false
  chooses : Chooses devices s.lastDisc.toInt s.srom order[n]
  answers : s.answers = passesFrom devices order polls n ++ more

namespace Bus

variable {devices order : List Bytes8} {polls : Nat → Nat} (bus : Bus devices order polls)
  {more : List Bool} {n : Nat}
include bus

theorem getElem_mem (h : n < order.length) : order[n] ∈ devices :=
  bus.perm.mem_iff.1 (List.getElem_mem h)

/-- Where an address of the bus and the next one part, the address leaves its last conflict with the 0,
and the next one is chosen there. -/
theorem exists_branch (h : n + 1 < order.length) : ∃ p : BitPosition,
    lastConflict devices order[n] = p.val ∧ Chooses devices p.val order[n] order[n + 1] := by
  obtain ⟨p, branches⟩ := List.pairwise_iff_getElem.1 bus.increasing n (n + 1) (by omega) h (by omega)
  have next : ∀ c ∈ devices, lexBefore order[n] c → ¬ lexBefore c order[n + 1] := fun c mem =>
    not_lexBefore_between bus.increasing h (bus.perm.mem_iff.2 mem)
  exact ⟨p, lastConflict_of_next branches next (bus.getElem_mem _) (bus.getElem_mem h),
    chooses_next branches next⟩

/-- Only the last address of the order leaves no conflict behind. -/
theorem lastConflict_eq_neg_one_iff (h : n < order.length) :
    lastConflict devices order[n] = -1 ↔ n + 1 = order.length := by
  constructor
  · intro last
    by_contra goesOn
    obtain ⟨p, branch, -⟩ := bus.exists_branch (n := n) (by omega)
    omega
  · intro last
    refine lastConflict_of_greatest (bus.getElem_mem h) fun b mem after => ?_
    obtain ⟨i, hi, rfl⟩ := List.getElem_of_mem (bus.perm.mem_iff.2 mem)
    have above := lt_of_lexBefore_getElem bus.increasing after
    omega

/-- The n-th pass finds the n-th address. -/
theorem found {s : State} {h : n < order.length} (awaits : Awaits devices order polls more n h s) :
    Found s.pass order[n] (lastConflict devices order[n])
      (passesFrom devices order polls (n + 1) ++ more) := by
  refine pass_on_bus awaits.pending awaits.ldf (bus.floats n) ?_ (bus.getElem_mem h)
    (bus.valid _ (bus.getElem_mem h)) awaits.chooses
  rw [awaits.answers, passesFrom, List.drop_eq_getElem_cons (by simpa using h), List.getElem_mapIdx,
    List.flatten_cons, List.append_assoc, passesFrom]

/-- The initial SearchState chooses the first address. -/
theorem chooses_first (h : 0 < order.length) (old : Bytes8) : Chooses devices (-1) old order[0] := by
  refine chooses_least (fun b mem before => ?_) old
  obtain ⟨i, hi, rfl⟩ := List.getElem_of_mem (bus.perm.mem_iff.2 mem)
  exact Nat.not_lt_zero i (lt_of_lexBefore_getElem bus.increasing before)

/-- SEARCH_INIT starts the enumeration. -/
theorem exists_start {s : State} (pending : s.pending = [])
    (answers : s.answers = passesFrom devices order polls 0 ++ more) (h : 0 < order.length) :
    ∃ t, exec .searchInit s = .next t ∧ Awaits devices order polls more 0 h t :=
  ⟨_, exec_searchInit pending, pending, rfl, bus.chooses_first h _, answers⟩

/-- After the n-th pass the next one is next. -/
theorem awaits_next {s : State} (h : n + 1 < order.length)
    (awaits : Awaits devices order polls more n (by omega) s) :
    Awaits devices order polls more (n + 1) h s.pass := by
  obtain ⟨p, branch, chooses⟩ := bus.exists_branch h
  have found := bus.found awaits
  rw [branch] at found
  refine ⟨found.pending, found.ldf.trans (decide_eq_false (by omega)), ?_, found.answers⟩
  rw [found.lastDisc_toInt (by omega), found.srom]
  exact chooses

/-- After n passes the n-th is next, as long as there is one. -/
theorem awaits_iterate {s : State} {h₀ : 0 < order.length}
    (awaits : Awaits devices order polls more 0 h₀ s) (h : n < order.length) :
    Awaits devices order polls more n h (State.pass^[n] s) := by
  induction n with
  | zero => exact awaits
  | succ n ih =>
    rw [Function.iterate_succ_apply']
    exact bus.awaits_next h (ih (by omega))

end Bus

/-! ### The obligations -/

/-- Settles O37: one action of one cycle. -/
theorem searchInitReinitialises : Obligations.SearchInitReinitialises :=
  fun _ none => exec_searchInit none

/-- Settles O38, with the choice read as `chosen`. -/
theorem chooseFollowsLastDiscrepancy : Obligations.ChooseFollowsLastDiscrepancy := by
  intro s pos
  rw [State.choose_eq_chosen]
  exact ⟨chosen_of_lt, chosen_of_eq, chosen_of_gt⟩

/-- Settles O39: step 1 returns. -/
theorem searchNextExhausted : Obligations.SearchNextExhausted :=
  fun _ none ldf => exec_searchNext_exhausted none ldf

/-- Settles O40: step 2 returns, at the end of the poll or after the presence sample. -/
theorem searchNextNoPresence : Obligations.SearchNextNoPresence :=
  fun _ none ldf => ⟨exec_searchNext_shorted none ldf,
    fun _ floats absent => exec_searchNext_absent none ldf floats absent⟩

/-- Settles O41: a bus reset and a byte written, then `scan` position by position, then steps 5 to 7. -/
theorem searchNextRefinesScan : Obligations.SearchNextRefinesScan :=
  fun _ _ none ldf floats presence => exec_searchNext_present none ldf floats presence

/-- Settles O42: each way through SEARCH_NEXT reports one outcome. -/
theorem searchNextReportsOneOutcome : Obligations.SearchNextReportsOneOutcome := by
  intro s none
  have run := exec_searchNext s
  have reported := State.pass_reported none
  obtain ⟨-, err, -, -, -, -, -, data, crc, -⟩ := commandsWriteOnlyTheirRegisters .searchNext s _ run
  refine ⟨s.pass, run, State.pass_phase none, reported.sres_ne_none, data nofun nofun,
    crc nofun nofun nofun, err, ?_⟩
  cases reported with
  | other outcome initial addr =>
    obtain ⟨lastDisc, ldf, srom⟩ := initial
    exact ⟨fun _ => ⟨lastDisc, ldf, srom, addr⟩, fun found => absurd found outcome.2⟩
  | found outcome addr valid last presence =>
    exact ⟨fun other => absurd outcome other, fun _ => ⟨addr, valid, last, presence⟩⟩

/-- Settles O43: a command that has ended is in the state that SRES stands for, and a run leaves no other
phase than its own or IDLE. -/
theorem searchStateTransitions : Obligations.SearchStateTransitions := by
  refine ⟨fun i s idle none => ?_, fun s t run busy => ?_, fun s t high low lands => ?_⟩
  · have run := exec_of_no_events none i
    obtain ⟨-, -, -, -, -, -, -, -, -, -, -, search, -⟩ := commandsWriteOnlyTheirRegisters i s _ run
    refine ⟨_, run, ?_, ?_, fun next init => ?_⟩
    all_goals rw [State.searchState_of_idle (runSeq_none_phase _ _)]
    · rintro rfl
      rw [← State.pass_eq run]
      exact SearchResult.state_of_ne_none (State.pass_reported none).sres_ne_none
    · rintro rfl
      rfl
    · rw [State.searchState_of_idle idle, (search next init).1]
  · rw [← State.pass_eq run] at busy ⊢
    have running := (runSeq_phase s.budget (actionsOf .searchNext) (s.accept .searchNext)).resolve_left
      (s.pass.busy_eq_true_iff.1 busy)
    exact if_pos running
  · obtain ⟨up, rfl, -⟩ | ⟨-, e⟩ := s.setRstN_cases high
    · simp [up] at low
    · cases lands
      rw [e]
      rfl

/-- Settles O47: two bus resets without presence. -/
theorem emptyBusGivesNoDevices : Obligations.EmptyBusGivesNoDevices := by
  intro s k₁ k₂ more none ldf h₁ h₂ answers
  rw [List.append_assoc] at answers
  obtain ⟨sres, pres, short, ldf, none, answers⟩ := pass_absent none ldf h₁ answers
  obtain ⟨sres', pres', short', ldf', -, -⟩ := pass_absent none ldf h₂ answers
  exact ⟨s.pass, s.pass.pass, exec_searchNext s, exec_searchNext s.pass, sres, pres, short, ldf, sres',
    pres', short', ldf'⟩

/-- Settles O48: the first pass is steered to the all-zero address, the second to an invalid one. -/
theorem stuckLowBusFindsAllZero : Obligations.StuckLowBusFindsAllZero := by
  intro s k₁ k₂ more none ldf initial h₁ h₂ answers
  rw [← passReads_allLow, ← passReads_allLow, List.append_assoc] at answers
  have found := pass_found none ldf h₁ answers (by rw [initial]; exact steers_allLow_first _)
    validAddress_zero
  rw [lastZero_allLow] at found
  obtain ⟨pending, sres, addr, srom, lastDisc, ldf, answers⟩ := found
  obtain ⟨sres', addr', srom', lastDisc', ldf'⟩ := pass_faulty pending ldf h₂ answers
    (by rw [lastDisc, srom]; exact steers_allLow_second) validAddress_bit63
  exact ⟨s.pass, s.pass.pass, exec_searchNext s, exec_searchNext s.pass, sres, addr, lastDisc, ldf,
    sres', addr'.trans addr, srom', lastDisc', ldf'⟩

/-- Settles O44: the one device is the least and the greatest. -/
theorem searchFindsSingleDevice : Obligations.SearchFindsSingleDevice := by
  intro s a k more none ldf initial valid h125 answers
  have alone : ∀ b ∈ [a], ¬ lexBefore b a ∧ ¬ lexBefore a b := by simp [not_lexBefore_self]
  have found := pass_on_bus none ldf h125 answers (List.mem_singleton_self a) valid
    (by rw [initial]; exact chooses_least (fun b mem => (alone b mem).1) _)
  rw [lastConflict_of_greatest (List.mem_singleton_self a) fun b mem => (alone b mem).2] at found
  exact ⟨s.pass, exec_searchNext s, found.sres, found.addr, found.srom, found.lastDisc, found.ldf,
    found.answers⟩

/-- Settles O45: a is the least device, b is the next and the greatest. -/
theorem searchFindsTwoDevices : Obligations.SearchFindsTwoDevices := by
  intro s a b p k₁ k₂ more none ldf initial validA validB agree zero one h₁ h₂ answers
  have branches : BranchesAt p a b := ⟨agree, zero, one⟩
  have before : lexBefore a b := ⟨p, branches⟩
  have least : ∀ c ∈ [a, b], ¬ lexBefore c a := by
    simp [not_lexBefore_self, not_lexBefore_of_lexBefore before]
  have next : ∀ c ∈ [a, b], lexBefore a c → ¬ lexBefore c b := by simp [not_lexBefore_self]
  have greatest : ∀ c ∈ [a, b], ¬ lexBefore b c := by
    simp [not_lexBefore_self, not_lexBefore_of_lexBefore before]
  have memA : a ∈ [a, b] := by simp
  have memB : b ∈ [a, b] := by simp
  rw [List.append_assoc] at answers
  have first := pass_on_bus none ldf h₁ answers memA validA
    (by rw [initial]; exact chooses_least least _)
  rw [lastConflict_of_next branches next memA memB] at first
  have ldf₁ : s.pass.ldf = false := first.ldf.trans (decide_eq_false (by omega))
  have second := pass_on_bus first.pending ldf₁ h₂ first.answers memB validB
    (by rw [first.lastDisc_toInt (by omega), first.srom]; exact chooses_next branches next)
  rw [lastConflict_of_greatest memB greatest] at second
  have third := exec_searchNext_exhausted second.pending second.ldf
  refine ⟨s.pass, s.pass.pass, _, exec_searchNext s, exec_searchNext s.pass, third, first.sres,
    first.addr, ?_, ldf₁, second.sres, second.addr, second.lastDisc, second.ldf, rfl, rfl, rfl⟩
  rw [first.lastDisc, BitVec.ofInt_natCast, BitVec.toNat_ofNat]
  omega

/-- Settles O46: in increasing order each pass finds one address and chooses the next. -/
theorem enumerationFindsEveryDeviceOnce : Obligations.EnumerationFindsEveryDeviceOnce := by
  intro devices polls more nonempty distinct valid h125
  obtain ⟨order, perm, increasing⟩ := exists_increasing distinct
  refine ⟨order, perm, increasing, fun s none answers => ?_⟩
  have bus : Bus devices order polls := ⟨perm, increasing, valid, h125⟩
  have positive : order.length ≠ 0 := by
    rw [perm.length_eq]
    exact mt List.length_eq_zero_iff.1 nonempty
  obtain ⟨m, length⟩ := Nat.exists_eq_succ_of_ne_zero positive
  obtain ⟨t₀, start, awaits⟩ := bus.exists_start none answers (by omega)
  have found (n : Nat) (h : n < order.length) := bus.found (bus.awaits_iterate awaits h)
  simp only [← Function.iterate_succ_apply'] at found
  have full := found m (by omega)
  rw [← Nat.succ_eq_add_one, ← length] at full
  have exhausted := exec_searchNext_exhausted full.pending
    (full.ldf.trans (decide_eq_true ((bus.lastConflict_eq_neg_one_iff _).2 length.symm)))
  refine ⟨fun n => State.pass^[n] t₀, _, start,
    fun n h => ⟨?_, (found n h).sres, (found n h).addr, ?_⟩, exhausted, rfl, rfl, rfl, rfl⟩
  · exact (exec_searchNext _).trans (congrArg _ (Function.iterate_succ_apply' State.pass n t₀).symm)
  · rw [(found n h).ldf, decide_eq_true_iff]
    exact bus.lastConflict_eq_neg_one_iff h

end Sys2Proof.Machine
end

section
/-! PROOFS. The family 60_exceptions.md: the longest time that each command takes. -/

namespace Sys2Proof.Machine

open Sys2Proof

/-! ### The longest waveforms -/

theorem zeroBits_le (v : Byte) : zeroBits v ≤ 8 := List.length_filter_le _ _

theorem lineTime_writeSlot_le (b : Bool) : lineTime (writeSlot b) ≤ 70 := by
  cases b <;> decide

theorem lineTime_writeByteSlots_le (v : Byte) : lineTime (writeByteSlots v) ≤ 560 := by
  have zeros := zeroBits_le v
  rw [lineTime_writeByteSlots]
  omega

theorem lineTime_writeBytes_le (bytes : List Byte) :
    lineTime (bytes.flatMap writeByteSlots) ≤ 560 * bytes.length := by
  induction bytes with
  | nil => exact le_rfl
  | cons v bytes ih =>
    have first := lineTime_writeByteSlots_le v
    rw [List.flatMap_cons, lineTime_append, List.length_cons]
    omega

theorem lineTime_reads (b cb : Bool) : lineTime (readSlot b ++ readSlot cb) = 132 := rfl

/-- Two read slots and a write slot at each position (R242). -/
theorem lineTime_scan_le (disc : Int) (answer : Nat → Bool) (ps : List BitPosition) (j : Nat)
    (srom : Bytes8) (lz : Int) : lineTime (scan disc answer ps j srom lz).trace ≤ 202 * ps.length := by
  induction ps generalizing j srom lz with
  | nil => exact le_rfl
  | cons p ps ih =>
    rw [List.length_cons]
    cases go : answer j && answer (j + 1) with
    | true =>
      rw [scan_cons_of_both go, lineTime_reads]
      omega
    | false =>
      rw [scan_cons_of_not_both go, lineTime_append, lineTime_append, lineTime_reads]
      set dir := scanDirection disc srom p (answer j) (answer (j + 1))
      have write := lineTime_writeSlot_le dir
      have later := ih (j + 2) (setAddressBit srom p dir) (scanLz p (answer j) (answer (j + 1)) dir lz)
      omega

/-- The waveform of a pass with presence: a bus reset, the search command and the 64 positions. -/
theorem lineTime_searchSlots_le (s : State) {k : Nat} (h125 : k < 125) (disc : Int)
    (answer : Nat → Bool) (j : Nat) (srom : Bytes8) (lz : Int) :
    lineTime (s.searchSlots k (scan disc answer positions j srom lz)) ≤ 14793 := by
  have command := lineTime_writeByteSlots_le s.params.searchRomCmd
  have scanned := lineTime_scan_le disc answer positions j srom lz
  have length : positions.length = 64 := List.length_finRange
  rw [State.searchSlots, lineTime_append, lineTime_append, lineTime_resetSlots]
  omega

theorem State.searched_clock (s : State) (k : Nat) (r : Scan) :
    (s.searched k r).clock =
      s.clock + lineTime (s.searchSlots k r) * s.params.ticksPerUs + if r.aborted then 0 else 1 := by
  unfold State.searched State.conclude
  split_ifs <;> rfl

/-! ### The longest time of each command -/

/-- The line time in microseconds that a command takes at most (R242). -/
def longestLineTime : Instr → Nat
  | .reset => 1305
  | .wbit _ => 70
  | .rbit => 66
  | .wbyte _ => 560
  | .rbyte => 528
  | .select => 5040
  | .searchNext => 14793
  | .searchInit | .crcClear | .crcByte | .crcAddr _ => 0

/-- The cycles without line time that a command takes at most (R243). -/
def longestOwnTime : Instr → Nat
  | .reset | .wbit _ | .rbit | .wbyte _ | .rbyte | .select => 0
  | .searchNext | .searchInit | .crcClear => 1
  | .crcByte => 8
  | .crcAddr n => 8 * n

theorem longestLineTime_le (i : Instr) : longestLineTime i ≤ 14793 := by
  cases i <;> simp [longestLineTime]

theorem longestOwnTime_le {i : Instr} (wf : i.wellFormed = true) : longestOwnTime i ≤ 64 := by
  cases i with
  | crcAddr n =>
    have count := (wellFormed_crcAddr_iff n).1 wf
    exact Nat.mul_le_mul_left 8 count.2
  | reset | wbit | rbit | wbyte | rbyte | select | searchNext | searchInit | crcClear | crcByte =>
    simp [longestOwnTime]

/-- From s to t the clock has gone on, by at most `us` microseconds and `own` cycles. -/
def Within (us own : Nat) (s t : State) : Prop :=
  s.clock ≤ t.clock ∧ t.clock ≤ s.clock + us * s.params.ticksPerUs + own

theorem Within.mono {s t : State} {us own us' own' : Nat} (within : Within us own s t) (line : us ≤ us')
    (rest : own ≤ own') : Within us' own' s t := by
  obtain ⟨start, stop⟩ := within
  have ticks := Nat.mul_le_mul_right s.params.ticksPerUs line
  exact ⟨start, by omega⟩

theorem within_of_clock {s t : State} {us own us' own' : Nat}
    (clock : t.clock = s.clock + us * s.params.ticksPerUs + own) (line : us ≤ us') (rest : own ≤ own') :
    Within us' own' s t :=
  Within.mono ⟨by omega, clock.le⟩ line rest

/-- A command that takes line time only. -/
theorem within_of_lineTime {s t : State} {us us' own : Nat}
    (clock : t.clock = s.clock + us * s.params.ticksPerUs) (line : us ≤ us') : Within us' own s t :=
  within_of_clock (own := 0) clock line (Nat.zero_le own)

/-- A command that takes no line time. -/
theorem within_of_cycles {s t : State} {us own own' : Nat} (clock : t.clock = s.clock + own)
    (rest : own ≤ own') : Within us own' s t :=
  within_of_clock (us := 0) (by rw [clock, Nat.zero_mul, Nat.add_zero]) (Nat.zero_le us) rest

/-- A bus reset takes 250 microseconds, or up to 1305 by the poll that reads high (R242). -/
theorem reset_within {s : State} (none : s.pending = []) :
    ∃ t, exec .reset s = .next t ∧ Within 1305 0 s t := by
  cases floats : s.floatsAt with
  | none => exact ⟨_, resetOnShortedBus s none floats, within_of_lineTime rfl (by decide)⟩
  | some k =>
    obtain ⟨h125, -⟩ := (s.floatsAt_eq_some_iff k).1 floats
    exact ⟨_, resetDetectsPresence s k none floats, within_of_lineTime rfl (by omega)⟩

/-- The ways through SEARCH_NEXT, of which a pass with presence is the longest (R242). -/
theorem searchNext_within {s : State} (none : s.pending = []) :
    ∃ t, exec .searchNext s = .next t ∧ Within 14793 1 s t := by
  cases ldf : s.ldf with
  | true => exact ⟨_, exec_searchNext_exhausted none ldf, within_of_cycles rfl le_rfl⟩
  | false =>
    cases floats : s.floatsAt with
    | none => exact ⟨_, exec_searchNext_shorted none ldf floats, within_of_lineTime rfl (by decide)⟩
    | some k =>
      obtain ⟨h125, -⟩ := (s.floatsAt_eq_some_iff k).1 floats
      cases presence : s.answer (k + 1) with
      | true =>
        exact ⟨_, exec_searchNext_absent none ldf floats presence, within_of_lineTime rfl (by omega)⟩
      | false =>
        exact ⟨_, exec_searchNext_present none ldf floats presence,
          within_of_clock (s.searched_clock k _) (lineTime_searchSlots_le s h125 _ _ _ _ _)
            (by split <;> decide)⟩

theorem command_within (i : Instr) {s : State} (none : s.pending = []) (wf : i.wellFormed = true) :
    ∃ t, exec i s = .next t ∧ Within (longestLineTime i) (longestOwnTime i) s t := by
  cases i with
  | reset => exact reset_within none
  | wbit b => exact ⟨_, wbitWritesOneSlot s b none, within_of_lineTime rfl (by cases b <;> decide)⟩
  | rbit => exact ⟨_, rbitReadsOneSlot s none, within_of_lineTime rfl le_rfl⟩
  | wbyte p =>
    have byte := (lineTime_writeByteSlots s.data).ge.trans (lineTime_writeByteSlots_le s.data)
    exact ⟨_, wbyteWritesData s p none, within_of_lineTime rfl byte⟩
  | rbyte =>
    obtain ⟨v, -, run⟩ := rbyteReadsData s none
    exact ⟨_, run, within_of_lineTime rfl le_rfl⟩
  | select =>
    have bytes := lineTime_writeBytes_le (s.params.matchRomCmd :: s.addr.toList)
    rw [lineTime_writeBytes, List.length_cons, Vector.length_toList] at bytes
    exact ⟨_, selectWritesAddress s none, within_of_lineTime rfl bytes⟩
  | searchInit => exact ⟨_, searchInitReinitialises s none, within_of_cycles rfl le_rfl⟩
  | searchNext => exact searchNext_within none
  | crcClear => exact ⟨_, crcClearSeedsAccumulator s none, within_of_cycles rfl le_rfl⟩
  | crcByte => exact ⟨_, crcByteFoldsData.1 s none, within_of_cycles rfl le_rfl⟩
  | crcAddr n =>
    obtain ⟨least, most⟩ := (wellFormed_crcAddr_iff n).1 wf
    exact ⟨_, crcAddrCoversFirstBytes s n none least most, within_of_cycles rfl le_rfl⟩

/-! ### The obligation -/

/-- Settles O50: the longest command is a whole pass of SEARCH_NEXT in line time, CRC_ADDR 8 in cycles. -/
theorem everyCommandEndsInBoundedTime : Obligations.EveryCommandEndsInBoundedTime := by
  intro i s none wf
  obtain ⟨t, run, within⟩ := command_within i none wf
  obtain ⟨start, stop⟩ := within.mono (longestLineTime_le i) (longestOwnTime_le wf)
  have idle : t.phase = .idle := by
    rw [exec_of_no_events none] at run
    cases run
    exact runSeq_none_phase _ _
  exact ⟨t, run, idle, start, stop⟩

end Sys2Proof.Machine
end

section
/-! PROOFS. The family 70_reset_and_hazards.md: block reset, and host writes while rst_n is low. -/

namespace Sys2Proof.Machine

open Sys2Proof

variable {s : State}

/-! ### A level on rst_n -/

/-- A high level on a port that is high already is no edge (R230). -/
theorem State.setRstN_of_no_edge (up : s.rstN = true) : s.setRstN true = s := by
  obtain ⟨-, -, e⟩ | ⟨low | low, -⟩ := s.setRstN_cases true
  · exact e
  · exact Bool.noConfusion (up.symm.trans low)
  · cases low

/-- The reset state while rst_n is low and at its rising edge (R230). -/
theorem State.setRstN_of_low {high : Bool} (low : s.rstN = false ∨ high = false) :
    s.setRstN high = { s.resetBlock with
      rstN := high, log := if s.rstN then .release :: s.log else s.log } := by
  obtain ⟨up, rfl, -⟩ | ⟨-, e⟩ := s.setRstN_cases high
  · simp [up] at low
  · exact e

/-- When rst_n falls, the release of the line goes on the trace (R231, log entry 7). -/
theorem State.setRstN_of_fall (up : s.rstN = true) :
    s.setRstN false = { s.resetBlock with rstN := false, log := .release :: s.log } := by
  rw [State.setRstN_of_low (.inr rfl), if_pos up]

theorem State.setRstN_trace_of_fall (up : s.rstN = true) :
    (s.setRstN false).trace = s.trace ++ [.release] := by
  rw [State.setRstN_of_fall up, State.trace, List.reverse_cons, State.trace]

/-- No bit of STATUS is set in the reset state (R23 to R29). -/
theorem State.setRstN_status_of_low {high : Bool} (low : s.rstN = false ∨ high = false) :
    (s.setRstN high).status = 0x00 := by
  rw [State.setRstN_of_low low]
  simp [State.status, State.busy, SearchResult.code]

/-! ### Host writes in reset -/

/-- While rst_n is low no write issues a command (log entry 7). -/
theorem State.issued_of_reset (low : s.rstN = false) (off : Fin 32) (v : Byte) :
    s.issued off v = none :=
  Option.eq_none_iff_forall_ne_some.2 fun _ issued =>
    have ⟨up, _⟩ := State.issued_eq_some issued
    Bool.noConfusion (low.symm.trans up)

theorem landWrite_of_reset (low : s.rstN = false) (off : Fin 32) (v : Byte) :
    landWrite off v s = .next s := by
  simp only [landWrite, State.issued_of_reset low, State.hostWrite_of_reset low]

end Sys2Proof.Machine
end

section
/-! PROOFS. The obligations of the family 70_reset_and_hazards.md. -/

namespace Sys2Proof.Machine

open Sys2Proof

/-- Settles O17: the event meets the block that the sequencer has come to, and rst_n falls there. -/
theorem resetAbandonsCommand : Obligations.ResetAbandonsCommand := by
  intro s p rest up pending fall
  obtain ⟨-, rstN, -, -⟩ := s.arrive_proceed_same p rest
  have up_at_event := rstN.trans up
  have stepped : step s = .next ((s.proceed.arrive p rest).setRstN false) := by
    rw [step_of_event pending, fall, land]
  refine ⟨_, stepped, State.setRstN_trace_of_fall up_at_event, ?phase,
    State.setRstN_status_of_low (.inr rfl), ?registers⟩
  all_goals rw [State.setRstN_of_fall up_at_event]
  case phase => rfl
  case registers => exact ⟨rfl, rfl, rfl, rfl, rfl, rfl, rfl, rfl, rfl⟩

/-- Settles O16: the two cases of a level on rst_n. -/
theorem blockResetState : Obligations.BlockResetState :=
  ⟨fun _ up => congrArg Host.Outcome.next (State.setRstN_of_no_edge up),
    fun _ _ low => congrArg Host.Outcome.next (State.setRstN_of_low low)⟩

/-- Settles O58: outside the interface no write acts, and at a register none does in reset. -/
theorem writesDuringResetIgnored : Obligations.WritesDuringResetIgnored := by
  intro s a w v low
  cases selected : s.selected a w with
  | none => simp only [land, selected]
  | some off => simp only [land, selected, landWrite_of_reset low]

end Sys2Proof.Machine
end

section
/-! PROOFS. Where the machine takes its next command from: the step from `withFetchWord`. -/

namespace Sys2Proof.Machine

open Sys2Proof

@[simp] theorem State.accept_budget (s : State) (c : Instr) : (s.accept c).budget = s.budget := rfl

/-- A command begins from its acceptance alone, the budget included. -/
theorem exec_eq_of_accept_eq {s t : State} {i : Instr} (same : s.accept i = t.accept i) :
    exec i s = exec i t := by
  rw [exec_eq_runCommand, exec_eq_runCommand, runCommand, runCommand, ← s.accept_budget i,
    ← t.accept_budget i, same]

/-- Acceptance forgets the phase and the work that `withFetchWord` clears, and the write's arrival
undoes its schedule and leaves the clock. -/
theorem State.accept_arrive_withFetchWord {s : State} (out : s.rstN = true) (nbits w : Nat)
    (p : Scheduled) (now : p.time = s.clock) (i : Instr) :
    ((s.withFetchWord nbits w).arrive p s.pending).accept i = s.accept i := by
  simp only [State.accept, State.arrive, State.withFetchWord, now, max_self, out]

/-- Settles O6: the word's write is issued at once, and meets a block that accepts the command as s
does. -/
theorem fetchWordRunsDecodedCommand : Obligations.FetchWordRunsDecodedCommand := by
  intro s nbits w i out decoded
  have legal : decode (BitVec.ofNat 8 (w % 2 ^ nbits)) = .ok i := (decode?_eq_some_iff _ i).1 decoded
  have issued := stepRunsIssuedCommand (s.withFetchWord nbits w) _ s.pending _ i rfl rfl rfl rfl legal
  exact issued.trans (exec_eq_of_accept_eq (State.accept_arrive_withFetchWord out nbits w _ rfl i))

end Sys2Proof.Machine
end
